-- ==== Sys2Proof/Word.lean ====
section
/-! DEFINITION. The word types of the core: 8-bit bytes and 16-bit words (00_scope.md R6, R7). Everything computed
from them (byte order, bit fields, sign extension) is in Sys2Proof/Machine/Bits.lean. -/

namespace Sys2Proof

/-- A byte: the addressable unit and the width of registers A..L and F (R6, R20). -/
abbrev Byte := BitVec 8

/-- A 16-bit value: a register pair, SP, PC or a bus address (R6, R22, R23, R24). -/
abbrev Word := BitVec 16

end Sys2Proof
end

