-- ==== Sys2Proof/Machine/Bits.lean ====
section
/-! DEFINITION. Byte order, bit fields and sign extension: the helpers that the decoder and the meanings share. -/

namespace Sys2Proof

/-- `hi:lo`, the left operand in bits 15..8 (R7); with the immediate's second byte as `hi` it is the little-endian
assembly `byte1 + 256 * byte2` (R10, R121). -/
def mkWord (hi lo : Byte) : Word := hi ++ lo

/-- `w[15:8]` (R7). -/
def hiByte (w : Word) : Byte := w.extractLsb' 8 8

/-- `w[7:0]` (R7). -/
def loByte (w : Word) : Byte := w.extractLsb' 0 8

/-- `sext_8(v)`: the byte read as a two's-complement number, as a 16-bit value to be added modulo 2^16 (R8). -/
def sext8 (v : Byte) : Word := v.signExtend 16

/-- `v & 0xF` as a number (R200). -/
def lowNibble (v : Byte) : Nat := v.toNat % 16

/-- A Boolean as the number 0 or 1 (R9). -/
def bitVal (b : Bool) : Nat := if b then 1 else 0

/-- An address of the high page, `0xFF00 + n` with n zero-extended (R121, R175). -/
def highPage (n : Byte) : Word := mkWord 0xFF n

/-- The 3-bit field `y = op[5:3]` of an opcode byte: destination, operation, bit number, restart vector (R112). -/
def fieldY (op : Byte) : BitVec 3 := op.extractLsb' 3 3

/-- The 3-bit field `z = op[2:0]`: the source selector (R112). -/
def fieldZ (op : Byte) : BitVec 3 := op.extractLsb' 0 3

/-- The 2-bit field `x = op[7:6]`: the quadrant (R112). -/
def fieldX (op : Byte) : BitVec 2 := op.extractLsb' 6 2

/-- The 2-bit field `p = op[5:4]`: the register-pair selector (R112). -/
def fieldP (op : Byte) : BitVec 2 := op.extractLsb' 4 2

/-- The 2-bit field `cc = op[4:3]`: the condition selector (R112). -/
def fieldCc (op : Byte) : BitVec 2 := op.extractLsb' 3 2

end Sys2Proof
end

