-- ==== Sys2Proof/Syntax.lean ====
section
/-! DEFINITION. The instruction set as syntax: one constructor of `Instr` for each of the 512 rows of
spec/opcode_table.json (256 of the base page, 256 of the CB page), with the immediate bytes as operands. A constructor
is named after its row: `Mem` marks a memory operand in parentheses, `HLI` and `HLD` are `HL+` and `HL-`, an underscore
separates two operands. The operand names below the type group the constructors by the shape of their operands. -/

namespace Sys2Proof

/-- The 8-bit registers an index 0..5, 7 selects (30_encoding.md R116); index 6 is the byte at HL. -/
inductive Reg8 where
  | b | c | d | e | h | l | a
  deriving DecidableEq, Repr

/-- The pairs `rp[p]` of `LD rr,d16`, `INC rr`, `DEC rr`, `ADD HL,rr` (R117). -/
inductive Pair where
  | bc | de | hl | sp
  deriving DecidableEq, Repr

/-- The pairs `rp2[p]` of `PUSH` and `POP` (R117). -/
inductive StackPair where
  | bc | de | hl | af
  deriving DecidableEq, Repr

/-- The conditions NZ, Z, NC, C (R118). -/
inductive Cond where
  | nz | z | nc | c
  deriving DecidableEq, Repr

/-- The ALU operations in index order (R119). -/
inductive AluOp where
  | add | adc | sub | sbc | and | xor | or | cp
  deriving DecidableEq, Repr

/-- The CB-page rotates and shifts in index order (R120, R274). -/
inductive ShiftOp where
  | rlc | rrc | rl | rr | sla | sra | swap | srl
  deriving DecidableEq, Repr

/-- One constructor per row of spec/opcode_table.json. -/
inductive Instr where
  -- the rows with an immediate byte or word (and the CB escape), in table order; they stand first because Lean's code
  -- generator keeps a constructor with fields in an 8-bit tag
  | ldBC_d16 (d16 : Word)
  | ldB_d8 (d8 : Byte)
  | ldMemA16_SP (a16 : Word)
  | ldC_d8 (d8 : Byte)
  | stop (ignored : Byte)
  | ldDE_d16 (d16 : Word)
  | ldD_d8 (d8 : Byte)
  | jrE8 (e8 : Byte)
  | ldE_d8 (d8 : Byte)
  | jrNZ_e8 (e8 : Byte)
  | ldHL_d16 (d16 : Word)
  | ldH_d8 (d8 : Byte)
  | jrZ_e8 (e8 : Byte)
  | ldL_d8 (d8 : Byte)
  | jrNC_e8 (e8 : Byte)
  | ldSP_d16 (d16 : Word)
  | ldMemHL_d8 (d8 : Byte)
  | jrC_e8 (e8 : Byte)
  | ldA_d8 (d8 : Byte)
  | jpNZ_a16 (a16 : Word)
  | jpA16 (a16 : Word)
  | callNZ_a16 (a16 : Word)
  | addA_d8 (d8 : Byte)
  | jpZ_a16 (a16 : Word)
  | prefixCb (cb : Byte)
  | callZ_a16 (a16 : Word)
  | callA16 (a16 : Word)
  | adcA_d8 (d8 : Byte)
  | jpNC_a16 (a16 : Word)
  | callNC_a16 (a16 : Word)
  | subD8 (d8 : Byte)
  | jpC_a16 (a16 : Word)
  | callC_a16 (a16 : Word)
  | sbcA_d8 (d8 : Byte)
  | ldhMemA8_A (a8 : Byte)
  | andD8 (d8 : Byte)
  | addSP_e8 (e8 : Byte)
  | ldMemA16_A (a16 : Word)
  | xorD8 (d8 : Byte)
  | ldhA_MemA8 (a8 : Byte)
  | orD8 (d8 : Byte)
  | ldHL_SPe8 (e8 : Byte)
  | ldA_MemA16 (a16 : Word)
  | cpD8 (d8 : Byte)
  -- the other rows of the base page (R122), in table order
  | nop
  | ldMemBC_A
  | incBC
  | incB
  | decB
  | rlca
  | addHL_BC
  | ldA_MemBC
  | decBC
  | incC
  | decC
  | rrca
  | ldMemDE_A
  | incDE
  | incD
  | decD
  | rla
  | addHL_DE
  | ldA_MemDE
  | decDE
  | incE
  | decE
  | rra
  | ldMemHLI_A
  | incHL
  | incH
  | decH
  | daa
  | addHL_HL
  | ldA_MemHLI
  | decHL
  | incL
  | decL
  | cpl
  | ldMemHLD_A
  | incSP
  | incMemHL
  | decMemHL
  | scf
  | addHL_SP
  | ldA_MemHLD
  | decSP
  | incA
  | decA
  | ccf
  | ldB_B
  | ldB_C
  | ldB_D
  | ldB_E
  | ldB_H
  | ldB_L
  | ldB_MemHL
  | ldB_A
  | ldC_B
  | ldC_C
  | ldC_D
  | ldC_E
  | ldC_H
  | ldC_L
  | ldC_MemHL
  | ldC_A
  | ldD_B
  | ldD_C
  | ldD_D
  | ldD_E
  | ldD_H
  | ldD_L
  | ldD_MemHL
  | ldD_A
  | ldE_B
  | ldE_C
  | ldE_D
  | ldE_E
  | ldE_H
  | ldE_L
  | ldE_MemHL
  | ldE_A
  | ldH_B
  | ldH_C
  | ldH_D
  | ldH_E
  | ldH_H
  | ldH_L
  | ldH_MemHL
  | ldH_A
  | ldL_B
  | ldL_C
  | ldL_D
  | ldL_E
  | ldL_H
  | ldL_L
  | ldL_MemHL
  | ldL_A
  | ldMemHL_B
  | ldMemHL_C
  | ldMemHL_D
  | ldMemHL_E
  | ldMemHL_H
  | ldMemHL_L
  | halt
  | ldMemHL_A
  | ldA_B
  | ldA_C
  | ldA_D
  | ldA_E
  | ldA_H
  | ldA_L
  | ldA_MemHL
  | ldA_A
  | addA_B
  | addA_C
  | addA_D
  | addA_E
  | addA_H
  | addA_L
  | addA_MemHL
  | addA_A
  | adcA_B
  | adcA_C
  | adcA_D
  | adcA_E
  | adcA_H
  | adcA_L
  | adcA_MemHL
  | adcA_A
  | subB
  | subC
  | subD
  | subE
  | subH
  | subL
  | subMemHL
  | subA
  | sbcA_B
  | sbcA_C
  | sbcA_D
  | sbcA_E
  | sbcA_H
  | sbcA_L
  | sbcA_MemHL
  | sbcA_A
  | andB
  | andC
  | andD
  | andE
  | andH
  | andL
  | andMemHL
  | andA
  | xorB
  | xorC
  | xorD
  | xorE
  | xorH
  | xorL
  | xorMemHL
  | xorA
  | orB
  | orC
  | orD
  | orE
  | orH
  | orL
  | orMemHL
  | orA
  | cpB
  | cpC
  | cpD
  | cpE
  | cpH
  | cpL
  | cpMemHL
  | cpA
  | retNZ
  | popBC
  | pushBC
  | rst00H
  | retZ
  | ret
  | rst08H
  | retNC
  | popDE
  | undefD3
  | pushDE
  | rst10H
  | retC
  | reti
  | undefDB
  | undefDD
  | rst18H
  | popHL
  | ldMemC_A
  | undefE3
  | undefE4
  | pushHL
  | rst20H
  | jpHL
  | undefEB
  | undefEC
  | undefED
  | rst28H
  | popAF
  | ldA_MemC
  | di
  | undefF4
  | pushAF
  | rst30H
  | ldSP_HL
  | ei
  | undefFC
  | undefFD
  | rst38H
  -- the CB page (R123), in table order
  | rlcB
  | rlcC
  | rlcD
  | rlcE
  | rlcH
  | rlcL
  | rlcMemHL
  | rlcA
  | rrcB
  | rrcC
  | rrcD
  | rrcE
  | rrcH
  | rrcL
  | rrcMemHL
  | rrcA
  | rlB
  | rlC
  | rlD
  | rlE
  | rlH
  | rlL
  | rlMemHL
  | rlA
  | rrB
  | rrC
  | rrD
  | rrE
  | rrH
  | rrL
  | rrMemHL
  | rrA
  | slaB
  | slaC
  | slaD
  | slaE
  | slaH
  | slaL
  | slaMemHL
  | slaA
  | sraB
  | sraC
  | sraD
  | sraE
  | sraH
  | sraL
  | sraMemHL
  | sraA
  | swapB
  | swapC
  | swapD
  | swapE
  | swapH
  | swapL
  | swapMemHL
  | swapA
  | srlB
  | srlC
  | srlD
  | srlE
  | srlH
  | srlL
  | srlMemHL
  | srlA
  | bit0_B
  | bit0_C
  | bit0_D
  | bit0_E
  | bit0_H
  | bit0_L
  | bit0_MemHL
  | bit0_A
  | bit1_B
  | bit1_C
  | bit1_D
  | bit1_E
  | bit1_H
  | bit1_L
  | bit1_MemHL
  | bit1_A
  | bit2_B
  | bit2_C
  | bit2_D
  | bit2_E
  | bit2_H
  | bit2_L
  | bit2_MemHL
  | bit2_A
  | bit3_B
  | bit3_C
  | bit3_D
  | bit3_E
  | bit3_H
  | bit3_L
  | bit3_MemHL
  | bit3_A
  | bit4_B
  | bit4_C
  | bit4_D
  | bit4_E
  | bit4_H
  | bit4_L
  | bit4_MemHL
  | bit4_A
  | bit5_B
  | bit5_C
  | bit5_D
  | bit5_E
  | bit5_H
  | bit5_L
  | bit5_MemHL
  | bit5_A
  | bit6_B
  | bit6_C
  | bit6_D
  | bit6_E
  | bit6_H
  | bit6_L
  | bit6_MemHL
  | bit6_A
  | bit7_B
  | bit7_C
  | bit7_D
  | bit7_E
  | bit7_H
  | bit7_L
  | bit7_MemHL
  | bit7_A
  | res0_B
  | res0_C
  | res0_D
  | res0_E
  | res0_H
  | res0_L
  | res0_MemHL
  | res0_A
  | res1_B
  | res1_C
  | res1_D
  | res1_E
  | res1_H
  | res1_L
  | res1_MemHL
  | res1_A
  | res2_B
  | res2_C
  | res2_D
  | res2_E
  | res2_H
  | res2_L
  | res2_MemHL
  | res2_A
  | res3_B
  | res3_C
  | res3_D
  | res3_E
  | res3_H
  | res3_L
  | res3_MemHL
  | res3_A
  | res4_B
  | res4_C
  | res4_D
  | res4_E
  | res4_H
  | res4_L
  | res4_MemHL
  | res4_A
  | res5_B
  | res5_C
  | res5_D
  | res5_E
  | res5_H
  | res5_L
  | res5_MemHL
  | res5_A
  | res6_B
  | res6_C
  | res6_D
  | res6_E
  | res6_H
  | res6_L
  | res6_MemHL
  | res6_A
  | res7_B
  | res7_C
  | res7_D
  | res7_E
  | res7_H
  | res7_L
  | res7_MemHL
  | res7_A
  | set0_B
  | set0_C
  | set0_D
  | set0_E
  | set0_H
  | set0_L
  | set0_MemHL
  | set0_A
  | set1_B
  | set1_C
  | set1_D
  | set1_E
  | set1_H
  | set1_L
  | set1_MemHL
  | set1_A
  | set2_B
  | set2_C
  | set2_D
  | set2_E
  | set2_H
  | set2_L
  | set2_MemHL
  | set2_A
  | set3_B
  | set3_C
  | set3_D
  | set3_E
  | set3_H
  | set3_L
  | set3_MemHL
  | set3_A
  | set4_B
  | set4_C
  | set4_D
  | set4_E
  | set4_H
  | set4_L
  | set4_MemHL
  | set4_A
  | set5_B
  | set5_C
  | set5_D
  | set5_E
  | set5_H
  | set5_L
  | set5_MemHL
  | set5_A
  | set6_B
  | set6_C
  | set6_D
  | set6_E
  | set6_H
  | set6_L
  | set6_MemHL
  | set6_A
  | set7_B
  | set7_C
  | set7_D
  | set7_E
  | set7_H
  | set7_L
  | set7_MemHL
  | set7_A
  deriving DecidableEq, Repr

/-! ## Constructors by operand

Each function below names the constructors of one shape by their operands, so that a rule about the shape is stated once. -/

namespace Instr

/-- `LD r,r'`: 49 constructors (R160). -/
def ldRegReg (dst src : Reg8) : Instr :=
  match dst, src with
  | .b, .b => .ldB_B
  | .b, .c => .ldB_C
  | .b, .d => .ldB_D
  | .b, .e => .ldB_E
  | .b, .h => .ldB_H
  | .b, .l => .ldB_L
  | .b, .a => .ldB_A
  | .c, .b => .ldC_B
  | .c, .c => .ldC_C
  | .c, .d => .ldC_D
  | .c, .e => .ldC_E
  | .c, .h => .ldC_H
  | .c, .l => .ldC_L
  | .c, .a => .ldC_A
  | .d, .b => .ldD_B
  | .d, .c => .ldD_C
  | .d, .d => .ldD_D
  | .d, .e => .ldD_E
  | .d, .h => .ldD_H
  | .d, .l => .ldD_L
  | .d, .a => .ldD_A
  | .e, .b => .ldE_B
  | .e, .c => .ldE_C
  | .e, .d => .ldE_D
  | .e, .e => .ldE_E
  | .e, .h => .ldE_H
  | .e, .l => .ldE_L
  | .e, .a => .ldE_A
  | .h, .b => .ldH_B
  | .h, .c => .ldH_C
  | .h, .d => .ldH_D
  | .h, .e => .ldH_E
  | .h, .h => .ldH_H
  | .h, .l => .ldH_L
  | .h, .a => .ldH_A
  | .l, .b => .ldL_B
  | .l, .c => .ldL_C
  | .l, .d => .ldL_D
  | .l, .e => .ldL_E
  | .l, .h => .ldL_H
  | .l, .l => .ldL_L
  | .l, .a => .ldL_A
  | .a, .b => .ldA_B
  | .a, .c => .ldA_C
  | .a, .d => .ldA_D
  | .a, .e => .ldA_E
  | .a, .h => .ldA_H
  | .a, .l => .ldA_L
  | .a, .a => .ldA_A

/-- `LD r,(HL)`: 7 constructors (R161). -/
def ldRegMem (dst : Reg8) : Instr :=
  match dst with
  | .b => .ldB_MemHL
  | .c => .ldC_MemHL
  | .d => .ldD_MemHL
  | .e => .ldE_MemHL
  | .h => .ldH_MemHL
  | .l => .ldL_MemHL
  | .a => .ldA_MemHL

/-- `LD (HL),r`: 7 constructors (R162). -/
def ldMemReg (src : Reg8) : Instr :=
  match src with
  | .b => .ldMemHL_B
  | .c => .ldMemHL_C
  | .d => .ldMemHL_D
  | .e => .ldMemHL_E
  | .h => .ldMemHL_H
  | .l => .ldMemHL_L
  | .a => .ldMemHL_A

/-- `LD r,d8`: 7 constructors (R163). -/
def ldRegImm (dst : Reg8) (v : Byte) : Instr :=
  match dst with
  | .b => .ldB_d8 v
  | .c => .ldC_d8 v
  | .d => .ldD_d8 v
  | .e => .ldE_d8 v
  | .h => .ldH_d8 v
  | .l => .ldL_d8 v
  | .a => .ldA_d8 v

/-- `LD rr,d16`: 4 constructors (R179). -/
def ldPairImm (p : Pair) (v : Word) : Instr :=
  match p with
  | .bc => .ldBC_d16 v
  | .de => .ldDE_d16 v
  | .hl => .ldHL_d16 v
  | .sp => .ldSP_d16 v

/-- `PUSH rr`: 4 constructors (R182). -/
def pushPair (p : StackPair) : Instr :=
  match p with
  | .bc => .pushBC
  | .de => .pushDE
  | .hl => .pushHL
  | .af => .pushAF

/-- `POP rr` and `POP AF`: 4 constructors (R183, R184). -/
def popPair (p : StackPair) : Instr :=
  match p with
  | .bc => .popBC
  | .de => .popDE
  | .hl => .popHL
  | .af => .popAF

/-- `ADD A,r` .. `CP r`: 56 constructors (R203 .. R224). -/
def aluReg (op : AluOp) (src : Reg8) : Instr :=
  match op, src with
  | .add, .b => .addA_B
  | .add, .c => .addA_C
  | .add, .d => .addA_D
  | .add, .e => .addA_E
  | .add, .h => .addA_H
  | .add, .l => .addA_L
  | .add, .a => .addA_A
  | .adc, .b => .adcA_B
  | .adc, .c => .adcA_C
  | .adc, .d => .adcA_D
  | .adc, .e => .adcA_E
  | .adc, .h => .adcA_H
  | .adc, .l => .adcA_L
  | .adc, .a => .adcA_A
  | .sub, .b => .subB
  | .sub, .c => .subC
  | .sub, .d => .subD
  | .sub, .e => .subE
  | .sub, .h => .subH
  | .sub, .l => .subL
  | .sub, .a => .subA
  | .sbc, .b => .sbcA_B
  | .sbc, .c => .sbcA_C
  | .sbc, .d => .sbcA_D
  | .sbc, .e => .sbcA_E
  | .sbc, .h => .sbcA_H
  | .sbc, .l => .sbcA_L
  | .sbc, .a => .sbcA_A
  | .and, .b => .andB
  | .and, .c => .andC
  | .and, .d => .andD
  | .and, .e => .andE
  | .and, .h => .andH
  | .and, .l => .andL
  | .and, .a => .andA
  | .xor, .b => .xorB
  | .xor, .c => .xorC
  | .xor, .d => .xorD
  | .xor, .e => .xorE
  | .xor, .h => .xorH
  | .xor, .l => .xorL
  | .xor, .a => .xorA
  | .or, .b => .orB
  | .or, .c => .orC
  | .or, .d => .orD
  | .or, .e => .orE
  | .or, .h => .orH
  | .or, .l => .orL
  | .or, .a => .orA
  | .cp, .b => .cpB
  | .cp, .c => .cpC
  | .cp, .d => .cpD
  | .cp, .e => .cpE
  | .cp, .h => .cpH
  | .cp, .l => .cpL
  | .cp, .a => .cpA

/-- `ADD A,(HL)` .. `CP (HL)`: 8 constructors (R204 .. R225). -/
def aluMem (op : AluOp) : Instr :=
  match op with
  | .add => .addA_MemHL
  | .adc => .adcA_MemHL
  | .sub => .subMemHL
  | .sbc => .sbcA_MemHL
  | .and => .andMemHL
  | .xor => .xorMemHL
  | .or => .orMemHL
  | .cp => .cpMemHL

/-- `ADD A,d8` .. `CP d8`: 8 constructors (R205 .. R226). -/
def aluImm (op : AluOp) (v : Byte) : Instr :=
  match op with
  | .add => .addA_d8 v
  | .adc => .adcA_d8 v
  | .sub => .subD8 v
  | .sbc => .sbcA_d8 v
  | .and => .andD8 v
  | .xor => .xorD8 v
  | .or => .orD8 v
  | .cp => .cpD8 v

/-- `INC r`: 7 constructors (R227). -/
def incReg (r : Reg8) : Instr :=
  match r with
  | .b => .incB
  | .c => .incC
  | .d => .incD
  | .e => .incE
  | .h => .incH
  | .l => .incL
  | .a => .incA

/-- `DEC r`: 7 constructors (R229). -/
def decReg (r : Reg8) : Instr :=
  match r with
  | .b => .decB
  | .c => .decC
  | .d => .decD
  | .e => .decE
  | .h => .decH
  | .l => .decL
  | .a => .decA

/-- `INC rr`: 4 constructors (R251). -/
def incPair (p : Pair) : Instr :=
  match p with
  | .bc => .incBC
  | .de => .incDE
  | .hl => .incHL
  | .sp => .incSP

/-- `DEC rr`: 4 constructors (R252). -/
def decPair (p : Pair) : Instr :=
  match p with
  | .bc => .decBC
  | .de => .decDE
  | .hl => .decHL
  | .sp => .decSP

/-- `ADD HL,rr`: 4 constructors (R253). -/
def addHLPair (p : Pair) : Instr :=
  match p with
  | .bc => .addHL_BC
  | .de => .addHL_DE
  | .hl => .addHL_HL
  | .sp => .addHL_SP

/-- `RLC r` .. `SRL r`: 56 constructors (R275 .. R289). -/
def shiftReg (o : ShiftOp) (r : Reg8) : Instr :=
  match o, r with
  | .rlc, .b => .rlcB
  | .rlc, .c => .rlcC
  | .rlc, .d => .rlcD
  | .rlc, .e => .rlcE
  | .rlc, .h => .rlcH
  | .rlc, .l => .rlcL
  | .rlc, .a => .rlcA
  | .rrc, .b => .rrcB
  | .rrc, .c => .rrcC
  | .rrc, .d => .rrcD
  | .rrc, .e => .rrcE
  | .rrc, .h => .rrcH
  | .rrc, .l => .rrcL
  | .rrc, .a => .rrcA
  | .rl, .b => .rlB
  | .rl, .c => .rlC
  | .rl, .d => .rlD
  | .rl, .e => .rlE
  | .rl, .h => .rlH
  | .rl, .l => .rlL
  | .rl, .a => .rlA
  | .rr, .b => .rrB
  | .rr, .c => .rrC
  | .rr, .d => .rrD
  | .rr, .e => .rrE
  | .rr, .h => .rrH
  | .rr, .l => .rrL
  | .rr, .a => .rrA
  | .sla, .b => .slaB
  | .sla, .c => .slaC
  | .sla, .d => .slaD
  | .sla, .e => .slaE
  | .sla, .h => .slaH
  | .sla, .l => .slaL
  | .sla, .a => .slaA
  | .sra, .b => .sraB
  | .sra, .c => .sraC
  | .sra, .d => .sraD
  | .sra, .e => .sraE
  | .sra, .h => .sraH
  | .sra, .l => .sraL
  | .sra, .a => .sraA
  | .swap, .b => .swapB
  | .swap, .c => .swapC
  | .swap, .d => .swapD
  | .swap, .e => .swapE
  | .swap, .h => .swapH
  | .swap, .l => .swapL
  | .swap, .a => .swapA
  | .srl, .b => .srlB
  | .srl, .c => .srlC
  | .srl, .d => .srlD
  | .srl, .e => .srlE
  | .srl, .h => .srlH
  | .srl, .l => .srlL
  | .srl, .a => .srlA

/-- `RLC (HL)` .. `SRL (HL)`: 8 constructors (R276 .. R290). -/
def shiftMem (o : ShiftOp) : Instr :=
  match o with
  | .rlc => .rlcMemHL
  | .rrc => .rrcMemHL
  | .rl => .rlMemHL
  | .rr => .rrMemHL
  | .sla => .slaMemHL
  | .sra => .sraMemHL
  | .swap => .swapMemHL
  | .srl => .srlMemHL

/-- `BIT b,r`: 56 constructors (R300). -/
def bitReg (n : Fin 8) (r : Reg8) : Instr :=
  match n, r with
  | 0, .b => .bit0_B
  | 0, .c => .bit0_C
  | 0, .d => .bit0_D
  | 0, .e => .bit0_E
  | 0, .h => .bit0_H
  | 0, .l => .bit0_L
  | 0, .a => .bit0_A
  | 1, .b => .bit1_B
  | 1, .c => .bit1_C
  | 1, .d => .bit1_D
  | 1, .e => .bit1_E
  | 1, .h => .bit1_H
  | 1, .l => .bit1_L
  | 1, .a => .bit1_A
  | 2, .b => .bit2_B
  | 2, .c => .bit2_C
  | 2, .d => .bit2_D
  | 2, .e => .bit2_E
  | 2, .h => .bit2_H
  | 2, .l => .bit2_L
  | 2, .a => .bit2_A
  | 3, .b => .bit3_B
  | 3, .c => .bit3_C
  | 3, .d => .bit3_D
  | 3, .e => .bit3_E
  | 3, .h => .bit3_H
  | 3, .l => .bit3_L
  | 3, .a => .bit3_A
  | 4, .b => .bit4_B
  | 4, .c => .bit4_C
  | 4, .d => .bit4_D
  | 4, .e => .bit4_E
  | 4, .h => .bit4_H
  | 4, .l => .bit4_L
  | 4, .a => .bit4_A
  | 5, .b => .bit5_B
  | 5, .c => .bit5_C
  | 5, .d => .bit5_D
  | 5, .e => .bit5_E
  | 5, .h => .bit5_H
  | 5, .l => .bit5_L
  | 5, .a => .bit5_A
  | 6, .b => .bit6_B
  | 6, .c => .bit6_C
  | 6, .d => .bit6_D
  | 6, .e => .bit6_E
  | 6, .h => .bit6_H
  | 6, .l => .bit6_L
  | 6, .a => .bit6_A
  | 7, .b => .bit7_B
  | 7, .c => .bit7_C
  | 7, .d => .bit7_D
  | 7, .e => .bit7_E
  | 7, .h => .bit7_H
  | 7, .l => .bit7_L
  | 7, .a => .bit7_A

/-- `BIT b,(HL)`: 8 constructors (R301). -/
def bitMem (n : Fin 8) : Instr :=
  match n with
  | 0 => .bit0_MemHL
  | 1 => .bit1_MemHL
  | 2 => .bit2_MemHL
  | 3 => .bit3_MemHL
  | 4 => .bit4_MemHL
  | 5 => .bit5_MemHL
  | 6 => .bit6_MemHL
  | 7 => .bit7_MemHL

/-- `RES b,r`: 56 constructors (R302). -/
def resReg (n : Fin 8) (r : Reg8) : Instr :=
  match n, r with
  | 0, .b => .res0_B
  | 0, .c => .res0_C
  | 0, .d => .res0_D
  | 0, .e => .res0_E
  | 0, .h => .res0_H
  | 0, .l => .res0_L
  | 0, .a => .res0_A
  | 1, .b => .res1_B
  | 1, .c => .res1_C
  | 1, .d => .res1_D
  | 1, .e => .res1_E
  | 1, .h => .res1_H
  | 1, .l => .res1_L
  | 1, .a => .res1_A
  | 2, .b => .res2_B
  | 2, .c => .res2_C
  | 2, .d => .res2_D
  | 2, .e => .res2_E
  | 2, .h => .res2_H
  | 2, .l => .res2_L
  | 2, .a => .res2_A
  | 3, .b => .res3_B
  | 3, .c => .res3_C
  | 3, .d => .res3_D
  | 3, .e => .res3_E
  | 3, .h => .res3_H
  | 3, .l => .res3_L
  | 3, .a => .res3_A
  | 4, .b => .res4_B
  | 4, .c => .res4_C
  | 4, .d => .res4_D
  | 4, .e => .res4_E
  | 4, .h => .res4_H
  | 4, .l => .res4_L
  | 4, .a => .res4_A
  | 5, .b => .res5_B
  | 5, .c => .res5_C
  | 5, .d => .res5_D
  | 5, .e => .res5_E
  | 5, .h => .res5_H
  | 5, .l => .res5_L
  | 5, .a => .res5_A
  | 6, .b => .res6_B
  | 6, .c => .res6_C
  | 6, .d => .res6_D
  | 6, .e => .res6_E
  | 6, .h => .res6_H
  | 6, .l => .res6_L
  | 6, .a => .res6_A
  | 7, .b => .res7_B
  | 7, .c => .res7_C
  | 7, .d => .res7_D
  | 7, .e => .res7_E
  | 7, .h => .res7_H
  | 7, .l => .res7_L
  | 7, .a => .res7_A

/-- `RES b,(HL)`: 8 constructors (R303). -/
def resMem (n : Fin 8) : Instr :=
  match n with
  | 0 => .res0_MemHL
  | 1 => .res1_MemHL
  | 2 => .res2_MemHL
  | 3 => .res3_MemHL
  | 4 => .res4_MemHL
  | 5 => .res5_MemHL
  | 6 => .res6_MemHL
  | 7 => .res7_MemHL

/-- `SET b,r`: 56 constructors (R304). -/
def setReg (n : Fin 8) (r : Reg8) : Instr :=
  match n, r with
  | 0, .b => .set0_B
  | 0, .c => .set0_C
  | 0, .d => .set0_D
  | 0, .e => .set0_E
  | 0, .h => .set0_H
  | 0, .l => .set0_L
  | 0, .a => .set0_A
  | 1, .b => .set1_B
  | 1, .c => .set1_C
  | 1, .d => .set1_D
  | 1, .e => .set1_E
  | 1, .h => .set1_H
  | 1, .l => .set1_L
  | 1, .a => .set1_A
  | 2, .b => .set2_B
  | 2, .c => .set2_C
  | 2, .d => .set2_D
  | 2, .e => .set2_E
  | 2, .h => .set2_H
  | 2, .l => .set2_L
  | 2, .a => .set2_A
  | 3, .b => .set3_B
  | 3, .c => .set3_C
  | 3, .d => .set3_D
  | 3, .e => .set3_E
  | 3, .h => .set3_H
  | 3, .l => .set3_L
  | 3, .a => .set3_A
  | 4, .b => .set4_B
  | 4, .c => .set4_C
  | 4, .d => .set4_D
  | 4, .e => .set4_E
  | 4, .h => .set4_H
  | 4, .l => .set4_L
  | 4, .a => .set4_A
  | 5, .b => .set5_B
  | 5, .c => .set5_C
  | 5, .d => .set5_D
  | 5, .e => .set5_E
  | 5, .h => .set5_H
  | 5, .l => .set5_L
  | 5, .a => .set5_A
  | 6, .b => .set6_B
  | 6, .c => .set6_C
  | 6, .d => .set6_D
  | 6, .e => .set6_E
  | 6, .h => .set6_H
  | 6, .l => .set6_L
  | 6, .a => .set6_A
  | 7, .b => .set7_B
  | 7, .c => .set7_C
  | 7, .d => .set7_D
  | 7, .e => .set7_E
  | 7, .h => .set7_H
  | 7, .l => .set7_L
  | 7, .a => .set7_A

/-- `SET b,(HL)`: 8 constructors (R305). -/
def setMem (n : Fin 8) : Instr :=
  match n with
  | 0 => .set0_MemHL
  | 1 => .set1_MemHL
  | 2 => .set2_MemHL
  | 3 => .set3_MemHL
  | 4 => .set4_MemHL
  | 5 => .set5_MemHL
  | 6 => .set6_MemHL
  | 7 => .set7_MemHL

/-- `JP cc,a16`: 4 constructors (R322). -/
def jpCond (cc : Cond) (a : Word) : Instr :=
  match cc with
  | .nz => .jpNZ_a16 a
  | .z => .jpZ_a16 a
  | .nc => .jpNC_a16 a
  | .c => .jpC_a16 a

/-- `JR cc,e8`: 4 constructors (R325). -/
def jrCond (cc : Cond) (e : Byte) : Instr :=
  match cc with
  | .nz => .jrNZ_e8 e
  | .z => .jrZ_e8 e
  | .nc => .jrNC_e8 e
  | .c => .jrC_e8 e

/-- `CALL cc,a16`: 4 constructors (R327). -/
def callCond (cc : Cond) (a : Word) : Instr :=
  match cc with
  | .nz => .callNZ_a16 a
  | .z => .callZ_a16 a
  | .nc => .callNC_a16 a
  | .c => .callC_a16 a

/-- `RET cc`: 4 constructors (R329). -/
def retCond (cc : Cond) : Instr :=
  match cc with
  | .nz => .retNZ
  | .z => .retZ
  | .nc => .retNC
  | .c => .retC

/-- `RST n` with n = 8 * y: 8 constructors (R331). -/
def rst (y : Fin 8) : Instr :=
  match y with
  | 0 => .rst00H
  | 1 => .rst08H
  | 2 => .rst10H
  | 3 => .rst18H
  | 4 => .rst20H
  | 5 => .rst28H
  | 6 => .rst30H
  | 7 => .rst38H

/-- The eleven undefined opcodes in the order R125 lists them (R356). -/
def undefinedOp (k : Fin 11) : Instr :=
  match k with
  | 0 => .undefD3
  | 1 => .undefDB
  | 2 => .undefDD
  | 3 => .undefE3
  | 4 => .undefE4
  | 5 => .undefEB
  | 6 => .undefEC
  | 7 => .undefED
  | 8 => .undefF4
  | 9 => .undefFC
  | 10 => .undefFD

/-- The eleven undefined opcode bytes in the order R125 lists them. -/
def undefinedByte (k : Fin 11) : Byte :=
  match k with
  | 0 => 0xD3
  | 1 => 0xDB
  | 2 => 0xDD
  | 3 => 0xE3
  | 4 => 0xE4
  | 5 => 0xEB
  | 6 => 0xEC
  | 7 => 0xED
  | 8 => 0xF4
  | 9 => 0xFC
  | 10 => 0xFD

end Instr

end Sys2Proof
end

