-- ==== Sys2Proof/WellFormed.lean ====
section
/-! DEFINITION. Which terms of `Instr` are instructions in their own right. Every operand is typed at its encoded width,
so the only check is that the CB escape does not stand alone. -/

namespace Sys2Proof

/-- The row PREFIX CB is an escape into the CB page (30_encoding.md R127, 47_cpu_control.md R355): the words `0xCB cb`
ARE the instruction of the row `0xCB<cb>`, so the escape itself is never what a word decodes to. Every other term is well
formed (R126: no reserved encodings). -/
def Instr.WellFormed : Instr → Bool
  | .prefixCb _ => false
  | _ => true

end Sys2Proof
end

