-- ==== Sys2Proof/Decode.lean ====
section
/-! DEFINITION. Decoding and encoding, from the opcode maps of 30_encoding.md R122 and R123. The decoder is total: every
byte of either page has a row, and the one rejection is a list of bytes that ends inside an instruction. -/

namespace Sys2Proof

/-- A cell of the base map (R122) with the bytes that follow the opcode (R111). -/
inductive BaseRow where
  /-- no further byte -/
  | plain (i : Instr)
  /-- one immediate byte: d8, a8, e8, or the ignored byte of STOP -/
  | imm8 (f : Byte → Instr)
  /-- an immediate word, low byte first: d16, a16 -/
  | imm16 (f : Word → Instr)
  /-- 0xCB: the next byte is looked up in the CB map (R127) -/
  | escape

namespace Decode

/-- Row 0x of the base map (R122). -/
def base0 : List BaseRow := [
    .plain .nop, .imm16 .ldBC_d16, .plain .ldMemBC_A, .plain .incBC, .plain .incB, .plain .decB, .imm8 .ldB_d8,
    .plain .rlca, .imm16 .ldMemA16_SP, .plain .addHL_BC, .plain .ldA_MemBC, .plain .decBC, .plain .incC, .plain .decC,
    .imm8 .ldC_d8, .plain .rrca]

/-- Row 1x of the base map (R122). -/
def base1 : List BaseRow := [
    .imm8 .stop, .imm16 .ldDE_d16, .plain .ldMemDE_A, .plain .incDE, .plain .incD, .plain .decD, .imm8 .ldD_d8,
    .plain .rla, .imm8 .jrE8, .plain .addHL_DE, .plain .ldA_MemDE, .plain .decDE, .plain .incE, .plain .decE,
    .imm8 .ldE_d8, .plain .rra]

/-- Row 2x of the base map (R122). -/
def base2 : List BaseRow := [
    .imm8 .jrNZ_e8, .imm16 .ldHL_d16, .plain .ldMemHLI_A, .plain .incHL, .plain .incH, .plain .decH, .imm8 .ldH_d8,
    .plain .daa, .imm8 .jrZ_e8, .plain .addHL_HL, .plain .ldA_MemHLI, .plain .decHL, .plain .incL, .plain .decL,
    .imm8 .ldL_d8, .plain .cpl]

/-- Row 3x of the base map (R122). -/
def base3 : List BaseRow := [
    .imm8 .jrNC_e8, .imm16 .ldSP_d16, .plain .ldMemHLD_A, .plain .incSP, .plain .incMemHL, .plain .decMemHL,
    .imm8 .ldMemHL_d8, .plain .scf, .imm8 .jrC_e8, .plain .addHL_SP, .plain .ldA_MemHLD, .plain .decSP, .plain .incA,
    .plain .decA, .imm8 .ldA_d8, .plain .ccf]

/-- Row 4x of the base map (R122). -/
def base4 : List BaseRow := [
    .plain .ldB_B, .plain .ldB_C, .plain .ldB_D, .plain .ldB_E, .plain .ldB_H, .plain .ldB_L, .plain .ldB_MemHL,
    .plain .ldB_A, .plain .ldC_B, .plain .ldC_C, .plain .ldC_D, .plain .ldC_E, .plain .ldC_H, .plain .ldC_L,
    .plain .ldC_MemHL, .plain .ldC_A]

/-- Row 5x of the base map (R122). -/
def base5 : List BaseRow := [
    .plain .ldD_B, .plain .ldD_C, .plain .ldD_D, .plain .ldD_E, .plain .ldD_H, .plain .ldD_L, .plain .ldD_MemHL,
    .plain .ldD_A, .plain .ldE_B, .plain .ldE_C, .plain .ldE_D, .plain .ldE_E, .plain .ldE_H, .plain .ldE_L,
    .plain .ldE_MemHL, .plain .ldE_A]

/-- Row 6x of the base map (R122). -/
def base6 : List BaseRow := [
    .plain .ldH_B, .plain .ldH_C, .plain .ldH_D, .plain .ldH_E, .plain .ldH_H, .plain .ldH_L, .plain .ldH_MemHL,
    .plain .ldH_A, .plain .ldL_B, .plain .ldL_C, .plain .ldL_D, .plain .ldL_E, .plain .ldL_H, .plain .ldL_L,
    .plain .ldL_MemHL, .plain .ldL_A]

/-- Row 7x of the base map (R122). -/
def base7 : List BaseRow := [
    .plain .ldMemHL_B, .plain .ldMemHL_C, .plain .ldMemHL_D, .plain .ldMemHL_E, .plain .ldMemHL_H, .plain .ldMemHL_L,
    .plain .halt, .plain .ldMemHL_A, .plain .ldA_B, .plain .ldA_C, .plain .ldA_D, .plain .ldA_E, .plain .ldA_H,
    .plain .ldA_L, .plain .ldA_MemHL, .plain .ldA_A]

/-- Row 8x of the base map (R122). -/
def base8 : List BaseRow := [
    .plain .addA_B, .plain .addA_C, .plain .addA_D, .plain .addA_E, .plain .addA_H, .plain .addA_L,
    .plain .addA_MemHL, .plain .addA_A, .plain .adcA_B, .plain .adcA_C, .plain .adcA_D, .plain .adcA_E,
    .plain .adcA_H, .plain .adcA_L, .plain .adcA_MemHL, .plain .adcA_A]

/-- Row 9x of the base map (R122). -/
def base9 : List BaseRow := [
    .plain .subB, .plain .subC, .plain .subD, .plain .subE, .plain .subH, .plain .subL, .plain .subMemHL,
    .plain .subA, .plain .sbcA_B, .plain .sbcA_C, .plain .sbcA_D, .plain .sbcA_E, .plain .sbcA_H, .plain .sbcA_L,
    .plain .sbcA_MemHL, .plain .sbcA_A]

/-- Row Ax of the base map (R122). -/
def baseA : List BaseRow := [
    .plain .andB, .plain .andC, .plain .andD, .plain .andE, .plain .andH, .plain .andL, .plain .andMemHL,
    .plain .andA, .plain .xorB, .plain .xorC, .plain .xorD, .plain .xorE, .plain .xorH, .plain .xorL,
    .plain .xorMemHL, .plain .xorA]

/-- Row Bx of the base map (R122). -/
def baseB : List BaseRow := [
    .plain .orB, .plain .orC, .plain .orD, .plain .orE, .plain .orH, .plain .orL, .plain .orMemHL, .plain .orA,
    .plain .cpB, .plain .cpC, .plain .cpD, .plain .cpE, .plain .cpH, .plain .cpL, .plain .cpMemHL, .plain .cpA]

/-- Row Cx of the base map (R122). -/
def baseC : List BaseRow := [
    .plain .retNZ, .plain .popBC, .imm16 .jpNZ_a16, .imm16 .jpA16, .imm16 .callNZ_a16, .plain .pushBC, .imm8 .addA_d8,
    .plain .rst00H, .plain .retZ, .plain .ret, .imm16 .jpZ_a16, .escape, .imm16 .callZ_a16, .imm16 .callA16,
    .imm8 .adcA_d8, .plain .rst08H]

/-- Row Dx of the base map (R122). -/
def baseD : List BaseRow := [
    .plain .retNC, .plain .popDE, .imm16 .jpNC_a16, .plain .undefD3, .imm16 .callNC_a16, .plain .pushDE, .imm8 .subD8,
    .plain .rst10H, .plain .retC, .plain .reti, .imm16 .jpC_a16, .plain .undefDB, .imm16 .callC_a16, .plain .undefDD,
    .imm8 .sbcA_d8, .plain .rst18H]

/-- Row Ex of the base map (R122). -/
def baseE : List BaseRow := [
    .imm8 .ldhMemA8_A, .plain .popHL, .plain .ldMemC_A, .plain .undefE3, .plain .undefE4, .plain .pushHL,
    .imm8 .andD8, .plain .rst20H, .imm8 .addSP_e8, .plain .jpHL, .imm16 .ldMemA16_A, .plain .undefEB, .plain .undefEC,
    .plain .undefED, .imm8 .xorD8, .plain .rst28H]

/-- Row Fx of the base map (R122). -/
def baseF : List BaseRow := [
    .imm8 .ldhA_MemA8, .plain .popAF, .plain .ldA_MemC, .plain .di, .plain .undefF4, .plain .pushAF, .imm8 .orD8,
    .plain .rst30H, .imm8 .ldHL_SPe8, .plain .ldSP_HL, .imm16 .ldA_MemA16, .plain .ei, .plain .undefFC,
    .plain .undefFD, .imm8 .cpD8, .plain .rst38H]

/-- The base map (R122): row = high nibble of the opcode, column = low nibble. -/
def baseMap : List (List BaseRow) := [
    base0, base1, base2, base3, base4, base5, base6, base7, base8, base9, baseA, baseB, baseC, baseD, baseE, baseF]

/-- Row 0x of the CB map (R123). -/
def cb0 : List Instr := [
    .rlcB, .rlcC, .rlcD, .rlcE, .rlcH, .rlcL, .rlcMemHL, .rlcA, .rrcB, .rrcC, .rrcD, .rrcE, .rrcH, .rrcL, .rrcMemHL,
    .rrcA]

/-- Row 1x of the CB map (R123). -/
def cb1 : List Instr := [
    .rlB, .rlC, .rlD, .rlE, .rlH, .rlL, .rlMemHL, .rlA, .rrB, .rrC, .rrD, .rrE, .rrH, .rrL, .rrMemHL, .rrA]

/-- Row 2x of the CB map (R123). -/
def cb2 : List Instr := [
    .slaB, .slaC, .slaD, .slaE, .slaH, .slaL, .slaMemHL, .slaA, .sraB, .sraC, .sraD, .sraE, .sraH, .sraL, .sraMemHL,
    .sraA]

/-- Row 3x of the CB map (R123). -/
def cb3 : List Instr := [
    .swapB, .swapC, .swapD, .swapE, .swapH, .swapL, .swapMemHL, .swapA, .srlB, .srlC, .srlD, .srlE, .srlH, .srlL,
    .srlMemHL, .srlA]

/-- Row 4x of the CB map (R123). -/
def cb4 : List Instr := [
    .bit0_B, .bit0_C, .bit0_D, .bit0_E, .bit0_H, .bit0_L, .bit0_MemHL, .bit0_A, .bit1_B, .bit1_C, .bit1_D, .bit1_E,
    .bit1_H, .bit1_L, .bit1_MemHL, .bit1_A]

/-- Row 5x of the CB map (R123). -/
def cb5 : List Instr := [
    .bit2_B, .bit2_C, .bit2_D, .bit2_E, .bit2_H, .bit2_L, .bit2_MemHL, .bit2_A, .bit3_B, .bit3_C, .bit3_D, .bit3_E,
    .bit3_H, .bit3_L, .bit3_MemHL, .bit3_A]

/-- Row 6x of the CB map (R123). -/
def cb6 : List Instr := [
    .bit4_B, .bit4_C, .bit4_D, .bit4_E, .bit4_H, .bit4_L, .bit4_MemHL, .bit4_A, .bit5_B, .bit5_C, .bit5_D, .bit5_E,
    .bit5_H, .bit5_L, .bit5_MemHL, .bit5_A]

/-- Row 7x of the CB map (R123). -/
def cb7 : List Instr := [
    .bit6_B, .bit6_C, .bit6_D, .bit6_E, .bit6_H, .bit6_L, .bit6_MemHL, .bit6_A, .bit7_B, .bit7_C, .bit7_D, .bit7_E,
    .bit7_H, .bit7_L, .bit7_MemHL, .bit7_A]

/-- Row 8x of the CB map (R123). -/
def cb8 : List Instr := [
    .res0_B, .res0_C, .res0_D, .res0_E, .res0_H, .res0_L, .res0_MemHL, .res0_A, .res1_B, .res1_C, .res1_D, .res1_E,
    .res1_H, .res1_L, .res1_MemHL, .res1_A]

/-- Row 9x of the CB map (R123). -/
def cb9 : List Instr := [
    .res2_B, .res2_C, .res2_D, .res2_E, .res2_H, .res2_L, .res2_MemHL, .res2_A, .res3_B, .res3_C, .res3_D, .res3_E,
    .res3_H, .res3_L, .res3_MemHL, .res3_A]

/-- Row Ax of the CB map (R123). -/
def cbA : List Instr := [
    .res4_B, .res4_C, .res4_D, .res4_E, .res4_H, .res4_L, .res4_MemHL, .res4_A, .res5_B, .res5_C, .res5_D, .res5_E,
    .res5_H, .res5_L, .res5_MemHL, .res5_A]

/-- Row Bx of the CB map (R123). -/
def cbB : List Instr := [
    .res6_B, .res6_C, .res6_D, .res6_E, .res6_H, .res6_L, .res6_MemHL, .res6_A, .res7_B, .res7_C, .res7_D, .res7_E,
    .res7_H, .res7_L, .res7_MemHL, .res7_A]

/-- Row Cx of the CB map (R123). -/
def cbC : List Instr := [
    .set0_B, .set0_C, .set0_D, .set0_E, .set0_H, .set0_L, .set0_MemHL, .set0_A, .set1_B, .set1_C, .set1_D, .set1_E,
    .set1_H, .set1_L, .set1_MemHL, .set1_A]

/-- Row Dx of the CB map (R123). -/
def cbD : List Instr := [
    .set2_B, .set2_C, .set2_D, .set2_E, .set2_H, .set2_L, .set2_MemHL, .set2_A, .set3_B, .set3_C, .set3_D, .set3_E,
    .set3_H, .set3_L, .set3_MemHL, .set3_A]

/-- Row Ex of the CB map (R123). -/
def cbE : List Instr := [
    .set4_B, .set4_C, .set4_D, .set4_E, .set4_H, .set4_L, .set4_MemHL, .set4_A, .set5_B, .set5_C, .set5_D, .set5_E,
    .set5_H, .set5_L, .set5_MemHL, .set5_A]

/-- Row Fx of the CB map (R123). -/
def cbF : List Instr := [
    .set6_B, .set6_C, .set6_D, .set6_E, .set6_H, .set6_L, .set6_MemHL, .set6_A, .set7_B, .set7_C, .set7_D, .set7_E,
    .set7_H, .set7_L, .set7_MemHL, .set7_A]

/-- The CB map (R123): row = high nibble of the byte after 0xCB, column = low nibble. -/
def cbMap : List (List Instr) := [
    cb0, cb1, cb2, cb3, cb4, cb5, cb6, cb7, cb8, cb9, cbA, cbB, cbC, cbD, cbE, cbF]

end Decode

/-- The base map's cell of an opcode byte; the map has 16 rows of 16, so no default is ever taken. -/
def baseRow (op : Byte) : BaseRow := (Decode.baseMap.getD (op.toNat / 16) []).getD (op.toNat % 16) (.plain .nop)

/-- The CB map's instruction for the byte after 0xCB; the map has 16 rows of 16, so no default is ever taken. -/
def cbRow (cb : Byte) : Instr := (Decode.cbMap.getD (cb.toNat / 16) []).getD (cb.toNat % 16) .nop

/-- How many bytes the instruction with this first byte has: a function of the first byte alone (R110). -/
def instrLength (op : Byte) : Nat :=
  match baseRow op with
  | .plain _ => 1
  | .imm8 _ => 2
  | .imm16 _ => 3
  | .escape => 2

/-- Why no instruction is read from a list of bytes. No byte value is rejected (R125, R126). -/
inductive DecodeError where
  /-- the list is empty -/
  | noOpcode
  /-- the list ends before the immediate bytes, or the CB byte, that this opcode needs -/
  | truncated (op : Byte)
  deriving DecidableEq, Repr

/-- Reads one instruction from the front of a list of bytes and answers it with the rest (R110, R111, R121, R127). -/
def decode : List Byte → Except DecodeError (Instr × List Byte)
  | [] => .error .noOpcode
  | op :: rest =>
    match baseRow op, rest with
    | .plain i, _ => .ok (i, rest)
    | .imm8 f, v :: rest' => .ok (f v, rest')
    | .imm16 f, lo :: hi :: rest' => .ok (f (mkWord hi lo), rest')
    | .escape, cb :: rest' => .ok (cbRow cb, rest')
    | _, _ => .error (.truncated op)

/-- An opcode and a little-endian immediate word (R111). -/
def encodeWord (op : Byte) (w : Word) : List Byte := [op, loByte w, hiByte w]

/-- The bytes of an instruction, lowest address first (R111, R122, R123). -/
def encode : Instr → List Byte
  | .nop => [0x00]
  | .ldBC_d16 d16 => encodeWord 0x01 d16
  | .ldMemBC_A => [0x02]
  | .incBC => [0x03]
  | .incB => [0x04]
  | .decB => [0x05]
  | .ldB_d8 d8 => [0x06, d8]
  | .rlca => [0x07]
  | .ldMemA16_SP a16 => encodeWord 0x08 a16
  | .addHL_BC => [0x09]
  | .ldA_MemBC => [0x0A]
  | .decBC => [0x0B]
  | .incC => [0x0C]
  | .decC => [0x0D]
  | .ldC_d8 d8 => [0x0E, d8]
  | .rrca => [0x0F]
  | .stop ignored => [0x10, ignored]
  | .ldDE_d16 d16 => encodeWord 0x11 d16
  | .ldMemDE_A => [0x12]
  | .incDE => [0x13]
  | .incD => [0x14]
  | .decD => [0x15]
  | .ldD_d8 d8 => [0x16, d8]
  | .rla => [0x17]
  | .jrE8 e8 => [0x18, e8]
  | .addHL_DE => [0x19]
  | .ldA_MemDE => [0x1A]
  | .decDE => [0x1B]
  | .incE => [0x1C]
  | .decE => [0x1D]
  | .ldE_d8 d8 => [0x1E, d8]
  | .rra => [0x1F]
  | .jrNZ_e8 e8 => [0x20, e8]
  | .ldHL_d16 d16 => encodeWord 0x21 d16
  | .ldMemHLI_A => [0x22]
  | .incHL => [0x23]
  | .incH => [0x24]
  | .decH => [0x25]
  | .ldH_d8 d8 => [0x26, d8]
  | .daa => [0x27]
  | .jrZ_e8 e8 => [0x28, e8]
  | .addHL_HL => [0x29]
  | .ldA_MemHLI => [0x2A]
  | .decHL => [0x2B]
  | .incL => [0x2C]
  | .decL => [0x2D]
  | .ldL_d8 d8 => [0x2E, d8]
  | .cpl => [0x2F]
  | .jrNC_e8 e8 => [0x30, e8]
  | .ldSP_d16 d16 => encodeWord 0x31 d16
  | .ldMemHLD_A => [0x32]
  | .incSP => [0x33]
  | .incMemHL => [0x34]
  | .decMemHL => [0x35]
  | .ldMemHL_d8 d8 => [0x36, d8]
  | .scf => [0x37]
  | .jrC_e8 e8 => [0x38, e8]
  | .addHL_SP => [0x39]
  | .ldA_MemHLD => [0x3A]
  | .decSP => [0x3B]
  | .incA => [0x3C]
  | .decA => [0x3D]
  | .ldA_d8 d8 => [0x3E, d8]
  | .ccf => [0x3F]
  | .ldB_B => [0x40]
  | .ldB_C => [0x41]
  | .ldB_D => [0x42]
  | .ldB_E => [0x43]
  | .ldB_H => [0x44]
  | .ldB_L => [0x45]
  | .ldB_MemHL => [0x46]
  | .ldB_A => [0x47]
  | .ldC_B => [0x48]
  | .ldC_C => [0x49]
  | .ldC_D => [0x4A]
  | .ldC_E => [0x4B]
  | .ldC_H => [0x4C]
  | .ldC_L => [0x4D]
  | .ldC_MemHL => [0x4E]
  | .ldC_A => [0x4F]
  | .ldD_B => [0x50]
  | .ldD_C => [0x51]
  | .ldD_D => [0x52]
  | .ldD_E => [0x53]
  | .ldD_H => [0x54]
  | .ldD_L => [0x55]
  | .ldD_MemHL => [0x56]
  | .ldD_A => [0x57]
  | .ldE_B => [0x58]
  | .ldE_C => [0x59]
  | .ldE_D => [0x5A]
  | .ldE_E => [0x5B]
  | .ldE_H => [0x5C]
  | .ldE_L => [0x5D]
  | .ldE_MemHL => [0x5E]
  | .ldE_A => [0x5F]
  | .ldH_B => [0x60]
  | .ldH_C => [0x61]
  | .ldH_D => [0x62]
  | .ldH_E => [0x63]
  | .ldH_H => [0x64]
  | .ldH_L => [0x65]
  | .ldH_MemHL => [0x66]
  | .ldH_A => [0x67]
  | .ldL_B => [0x68]
  | .ldL_C => [0x69]
  | .ldL_D => [0x6A]
  | .ldL_E => [0x6B]
  | .ldL_H => [0x6C]
  | .ldL_L => [0x6D]
  | .ldL_MemHL => [0x6E]
  | .ldL_A => [0x6F]
  | .ldMemHL_B => [0x70]
  | .ldMemHL_C => [0x71]
  | .ldMemHL_D => [0x72]
  | .ldMemHL_E => [0x73]
  | .ldMemHL_H => [0x74]
  | .ldMemHL_L => [0x75]
  | .halt => [0x76]
  | .ldMemHL_A => [0x77]
  | .ldA_B => [0x78]
  | .ldA_C => [0x79]
  | .ldA_D => [0x7A]
  | .ldA_E => [0x7B]
  | .ldA_H => [0x7C]
  | .ldA_L => [0x7D]
  | .ldA_MemHL => [0x7E]
  | .ldA_A => [0x7F]
  | .addA_B => [0x80]
  | .addA_C => [0x81]
  | .addA_D => [0x82]
  | .addA_E => [0x83]
  | .addA_H => [0x84]
  | .addA_L => [0x85]
  | .addA_MemHL => [0x86]
  | .addA_A => [0x87]
  | .adcA_B => [0x88]
  | .adcA_C => [0x89]
  | .adcA_D => [0x8A]
  | .adcA_E => [0x8B]
  | .adcA_H => [0x8C]
  | .adcA_L => [0x8D]
  | .adcA_MemHL => [0x8E]
  | .adcA_A => [0x8F]
  | .subB => [0x90]
  | .subC => [0x91]
  | .subD => [0x92]
  | .subE => [0x93]
  | .subH => [0x94]
  | .subL => [0x95]
  | .subMemHL => [0x96]
  | .subA => [0x97]
  | .sbcA_B => [0x98]
  | .sbcA_C => [0x99]
  | .sbcA_D => [0x9A]
  | .sbcA_E => [0x9B]
  | .sbcA_H => [0x9C]
  | .sbcA_L => [0x9D]
  | .sbcA_MemHL => [0x9E]
  | .sbcA_A => [0x9F]
  | .andB => [0xA0]
  | .andC => [0xA1]
  | .andD => [0xA2]
  | .andE => [0xA3]
  | .andH => [0xA4]
  | .andL => [0xA5]
  | .andMemHL => [0xA6]
  | .andA => [0xA7]
  | .xorB => [0xA8]
  | .xorC => [0xA9]
  | .xorD => [0xAA]
  | .xorE => [0xAB]
  | .xorH => [0xAC]
  | .xorL => [0xAD]
  | .xorMemHL => [0xAE]
  | .xorA => [0xAF]
  | .orB => [0xB0]
  | .orC => [0xB1]
  | .orD => [0xB2]
  | .orE => [0xB3]
  | .orH => [0xB4]
  | .orL => [0xB5]
  | .orMemHL => [0xB6]
  | .orA => [0xB7]
  | .cpB => [0xB8]
  | .cpC => [0xB9]
  | .cpD => [0xBA]
  | .cpE => [0xBB]
  | .cpH => [0xBC]
  | .cpL => [0xBD]
  | .cpMemHL => [0xBE]
  | .cpA => [0xBF]
  | .retNZ => [0xC0]
  | .popBC => [0xC1]
  | .jpNZ_a16 a16 => encodeWord 0xC2 a16
  | .jpA16 a16 => encodeWord 0xC3 a16
  | .callNZ_a16 a16 => encodeWord 0xC4 a16
  | .pushBC => [0xC5]
  | .addA_d8 d8 => [0xC6, d8]
  | .rst00H => [0xC7]
  | .retZ => [0xC8]
  | .ret => [0xC9]
  | .jpZ_a16 a16 => encodeWord 0xCA a16
  | .prefixCb cb => [0xCB, cb]
  | .callZ_a16 a16 => encodeWord 0xCC a16
  | .callA16 a16 => encodeWord 0xCD a16
  | .adcA_d8 d8 => [0xCE, d8]
  | .rst08H => [0xCF]
  | .retNC => [0xD0]
  | .popDE => [0xD1]
  | .jpNC_a16 a16 => encodeWord 0xD2 a16
  | .undefD3 => [0xD3]
  | .callNC_a16 a16 => encodeWord 0xD4 a16
  | .pushDE => [0xD5]
  | .subD8 d8 => [0xD6, d8]
  | .rst10H => [0xD7]
  | .retC => [0xD8]
  | .reti => [0xD9]
  | .jpC_a16 a16 => encodeWord 0xDA a16
  | .undefDB => [0xDB]
  | .callC_a16 a16 => encodeWord 0xDC a16
  | .undefDD => [0xDD]
  | .sbcA_d8 d8 => [0xDE, d8]
  | .rst18H => [0xDF]
  | .ldhMemA8_A a8 => [0xE0, a8]
  | .popHL => [0xE1]
  | .ldMemC_A => [0xE2]
  | .undefE3 => [0xE3]
  | .undefE4 => [0xE4]
  | .pushHL => [0xE5]
  | .andD8 d8 => [0xE6, d8]
  | .rst20H => [0xE7]
  | .addSP_e8 e8 => [0xE8, e8]
  | .jpHL => [0xE9]
  | .ldMemA16_A a16 => encodeWord 0xEA a16
  | .undefEB => [0xEB]
  | .undefEC => [0xEC]
  | .undefED => [0xED]
  | .xorD8 d8 => [0xEE, d8]
  | .rst28H => [0xEF]
  | .ldhA_MemA8 a8 => [0xF0, a8]
  | .popAF => [0xF1]
  | .ldA_MemC => [0xF2]
  | .di => [0xF3]
  | .undefF4 => [0xF4]
  | .pushAF => [0xF5]
  | .orD8 d8 => [0xF6, d8]
  | .rst30H => [0xF7]
  | .ldHL_SPe8 e8 => [0xF8, e8]
  | .ldSP_HL => [0xF9]
  | .ldA_MemA16 a16 => encodeWord 0xFA a16
  | .ei => [0xFB]
  | .undefFC => [0xFC]
  | .undefFD => [0xFD]
  | .cpD8 d8 => [0xFE, d8]
  | .rst38H => [0xFF]
  | .rlcB => [0xCB, 0x00]
  | .rlcC => [0xCB, 0x01]
  | .rlcD => [0xCB, 0x02]
  | .rlcE => [0xCB, 0x03]
  | .rlcH => [0xCB, 0x04]
  | .rlcL => [0xCB, 0x05]
  | .rlcMemHL => [0xCB, 0x06]
  | .rlcA => [0xCB, 0x07]
  | .rrcB => [0xCB, 0x08]
  | .rrcC => [0xCB, 0x09]
  | .rrcD => [0xCB, 0x0A]
  | .rrcE => [0xCB, 0x0B]
  | .rrcH => [0xCB, 0x0C]
  | .rrcL => [0xCB, 0x0D]
  | .rrcMemHL => [0xCB, 0x0E]
  | .rrcA => [0xCB, 0x0F]
  | .rlB => [0xCB, 0x10]
  | .rlC => [0xCB, 0x11]
  | .rlD => [0xCB, 0x12]
  | .rlE => [0xCB, 0x13]
  | .rlH => [0xCB, 0x14]
  | .rlL => [0xCB, 0x15]
  | .rlMemHL => [0xCB, 0x16]
  | .rlA => [0xCB, 0x17]
  | .rrB => [0xCB, 0x18]
  | .rrC => [0xCB, 0x19]
  | .rrD => [0xCB, 0x1A]
  | .rrE => [0xCB, 0x1B]
  | .rrH => [0xCB, 0x1C]
  | .rrL => [0xCB, 0x1D]
  | .rrMemHL => [0xCB, 0x1E]
  | .rrA => [0xCB, 0x1F]
  | .slaB => [0xCB, 0x20]
  | .slaC => [0xCB, 0x21]
  | .slaD => [0xCB, 0x22]
  | .slaE => [0xCB, 0x23]
  | .slaH => [0xCB, 0x24]
  | .slaL => [0xCB, 0x25]
  | .slaMemHL => [0xCB, 0x26]
  | .slaA => [0xCB, 0x27]
  | .sraB => [0xCB, 0x28]
  | .sraC => [0xCB, 0x29]
  | .sraD => [0xCB, 0x2A]
  | .sraE => [0xCB, 0x2B]
  | .sraH => [0xCB, 0x2C]
  | .sraL => [0xCB, 0x2D]
  | .sraMemHL => [0xCB, 0x2E]
  | .sraA => [0xCB, 0x2F]
  | .swapB => [0xCB, 0x30]
  | .swapC => [0xCB, 0x31]
  | .swapD => [0xCB, 0x32]
  | .swapE => [0xCB, 0x33]
  | .swapH => [0xCB, 0x34]
  | .swapL => [0xCB, 0x35]
  | .swapMemHL => [0xCB, 0x36]
  | .swapA => [0xCB, 0x37]
  | .srlB => [0xCB, 0x38]
  | .srlC => [0xCB, 0x39]
  | .srlD => [0xCB, 0x3A]
  | .srlE => [0xCB, 0x3B]
  | .srlH => [0xCB, 0x3C]
  | .srlL => [0xCB, 0x3D]
  | .srlMemHL => [0xCB, 0x3E]
  | .srlA => [0xCB, 0x3F]
  | .bit0_B => [0xCB, 0x40]
  | .bit0_C => [0xCB, 0x41]
  | .bit0_D => [0xCB, 0x42]
  | .bit0_E => [0xCB, 0x43]
  | .bit0_H => [0xCB, 0x44]
  | .bit0_L => [0xCB, 0x45]
  | .bit0_MemHL => [0xCB, 0x46]
  | .bit0_A => [0xCB, 0x47]
  | .bit1_B => [0xCB, 0x48]
  | .bit1_C => [0xCB, 0x49]
  | .bit1_D => [0xCB, 0x4A]
  | .bit1_E => [0xCB, 0x4B]
  | .bit1_H => [0xCB, 0x4C]
  | .bit1_L => [0xCB, 0x4D]
  | .bit1_MemHL => [0xCB, 0x4E]
  | .bit1_A => [0xCB, 0x4F]
  | .bit2_B => [0xCB, 0x50]
  | .bit2_C => [0xCB, 0x51]
  | .bit2_D => [0xCB, 0x52]
  | .bit2_E => [0xCB, 0x53]
  | .bit2_H => [0xCB, 0x54]
  | .bit2_L => [0xCB, 0x55]
  | .bit2_MemHL => [0xCB, 0x56]
  | .bit2_A => [0xCB, 0x57]
  | .bit3_B => [0xCB, 0x58]
  | .bit3_C => [0xCB, 0x59]
  | .bit3_D => [0xCB, 0x5A]
  | .bit3_E => [0xCB, 0x5B]
  | .bit3_H => [0xCB, 0x5C]
  | .bit3_L => [0xCB, 0x5D]
  | .bit3_MemHL => [0xCB, 0x5E]
  | .bit3_A => [0xCB, 0x5F]
  | .bit4_B => [0xCB, 0x60]
  | .bit4_C => [0xCB, 0x61]
  | .bit4_D => [0xCB, 0x62]
  | .bit4_E => [0xCB, 0x63]
  | .bit4_H => [0xCB, 0x64]
  | .bit4_L => [0xCB, 0x65]
  | .bit4_MemHL => [0xCB, 0x66]
  | .bit4_A => [0xCB, 0x67]
  | .bit5_B => [0xCB, 0x68]
  | .bit5_C => [0xCB, 0x69]
  | .bit5_D => [0xCB, 0x6A]
  | .bit5_E => [0xCB, 0x6B]
  | .bit5_H => [0xCB, 0x6C]
  | .bit5_L => [0xCB, 0x6D]
  | .bit5_MemHL => [0xCB, 0x6E]
  | .bit5_A => [0xCB, 0x6F]
  | .bit6_B => [0xCB, 0x70]
  | .bit6_C => [0xCB, 0x71]
  | .bit6_D => [0xCB, 0x72]
  | .bit6_E => [0xCB, 0x73]
  | .bit6_H => [0xCB, 0x74]
  | .bit6_L => [0xCB, 0x75]
  | .bit6_MemHL => [0xCB, 0x76]
  | .bit6_A => [0xCB, 0x77]
  | .bit7_B => [0xCB, 0x78]
  | .bit7_C => [0xCB, 0x79]
  | .bit7_D => [0xCB, 0x7A]
  | .bit7_E => [0xCB, 0x7B]
  | .bit7_H => [0xCB, 0x7C]
  | .bit7_L => [0xCB, 0x7D]
  | .bit7_MemHL => [0xCB, 0x7E]
  | .bit7_A => [0xCB, 0x7F]
  | .res0_B => [0xCB, 0x80]
  | .res0_C => [0xCB, 0x81]
  | .res0_D => [0xCB, 0x82]
  | .res0_E => [0xCB, 0x83]
  | .res0_H => [0xCB, 0x84]
  | .res0_L => [0xCB, 0x85]
  | .res0_MemHL => [0xCB, 0x86]
  | .res0_A => [0xCB, 0x87]
  | .res1_B => [0xCB, 0x88]
  | .res1_C => [0xCB, 0x89]
  | .res1_D => [0xCB, 0x8A]
  | .res1_E => [0xCB, 0x8B]
  | .res1_H => [0xCB, 0x8C]
  | .res1_L => [0xCB, 0x8D]
  | .res1_MemHL => [0xCB, 0x8E]
  | .res1_A => [0xCB, 0x8F]
  | .res2_B => [0xCB, 0x90]
  | .res2_C => [0xCB, 0x91]
  | .res2_D => [0xCB, 0x92]
  | .res2_E => [0xCB, 0x93]
  | .res2_H => [0xCB, 0x94]
  | .res2_L => [0xCB, 0x95]
  | .res2_MemHL => [0xCB, 0x96]
  | .res2_A => [0xCB, 0x97]
  | .res3_B => [0xCB, 0x98]
  | .res3_C => [0xCB, 0x99]
  | .res3_D => [0xCB, 0x9A]
  | .res3_E => [0xCB, 0x9B]
  | .res3_H => [0xCB, 0x9C]
  | .res3_L => [0xCB, 0x9D]
  | .res3_MemHL => [0xCB, 0x9E]
  | .res3_A => [0xCB, 0x9F]
  | .res4_B => [0xCB, 0xA0]
  | .res4_C => [0xCB, 0xA1]
  | .res4_D => [0xCB, 0xA2]
  | .res4_E => [0xCB, 0xA3]
  | .res4_H => [0xCB, 0xA4]
  | .res4_L => [0xCB, 0xA5]
  | .res4_MemHL => [0xCB, 0xA6]
  | .res4_A => [0xCB, 0xA7]
  | .res5_B => [0xCB, 0xA8]
  | .res5_C => [0xCB, 0xA9]
  | .res5_D => [0xCB, 0xAA]
  | .res5_E => [0xCB, 0xAB]
  | .res5_H => [0xCB, 0xAC]
  | .res5_L => [0xCB, 0xAD]
  | .res5_MemHL => [0xCB, 0xAE]
  | .res5_A => [0xCB, 0xAF]
  | .res6_B => [0xCB, 0xB0]
  | .res6_C => [0xCB, 0xB1]
  | .res6_D => [0xCB, 0xB2]
  | .res6_E => [0xCB, 0xB3]
  | .res6_H => [0xCB, 0xB4]
  | .res6_L => [0xCB, 0xB5]
  | .res6_MemHL => [0xCB, 0xB6]
  | .res6_A => [0xCB, 0xB7]
  | .res7_B => [0xCB, 0xB8]
  | .res7_C => [0xCB, 0xB9]
  | .res7_D => [0xCB, 0xBA]
  | .res7_E => [0xCB, 0xBB]
  | .res7_H => [0xCB, 0xBC]
  | .res7_L => [0xCB, 0xBD]
  | .res7_MemHL => [0xCB, 0xBE]
  | .res7_A => [0xCB, 0xBF]
  | .set0_B => [0xCB, 0xC0]
  | .set0_C => [0xCB, 0xC1]
  | .set0_D => [0xCB, 0xC2]
  | .set0_E => [0xCB, 0xC3]
  | .set0_H => [0xCB, 0xC4]
  | .set0_L => [0xCB, 0xC5]
  | .set0_MemHL => [0xCB, 0xC6]
  | .set0_A => [0xCB, 0xC7]
  | .set1_B => [0xCB, 0xC8]
  | .set1_C => [0xCB, 0xC9]
  | .set1_D => [0xCB, 0xCA]
  | .set1_E => [0xCB, 0xCB]
  | .set1_H => [0xCB, 0xCC]
  | .set1_L => [0xCB, 0xCD]
  | .set1_MemHL => [0xCB, 0xCE]
  | .set1_A => [0xCB, 0xCF]
  | .set2_B => [0xCB, 0xD0]
  | .set2_C => [0xCB, 0xD1]
  | .set2_D => [0xCB, 0xD2]
  | .set2_E => [0xCB, 0xD3]
  | .set2_H => [0xCB, 0xD4]
  | .set2_L => [0xCB, 0xD5]
  | .set2_MemHL => [0xCB, 0xD6]
  | .set2_A => [0xCB, 0xD7]
  | .set3_B => [0xCB, 0xD8]
  | .set3_C => [0xCB, 0xD9]
  | .set3_D => [0xCB, 0xDA]
  | .set3_E => [0xCB, 0xDB]
  | .set3_H => [0xCB, 0xDC]
  | .set3_L => [0xCB, 0xDD]
  | .set3_MemHL => [0xCB, 0xDE]
  | .set3_A => [0xCB, 0xDF]
  | .set4_B => [0xCB, 0xE0]
  | .set4_C => [0xCB, 0xE1]
  | .set4_D => [0xCB, 0xE2]
  | .set4_E => [0xCB, 0xE3]
  | .set4_H => [0xCB, 0xE4]
  | .set4_L => [0xCB, 0xE5]
  | .set4_MemHL => [0xCB, 0xE6]
  | .set4_A => [0xCB, 0xE7]
  | .set5_B => [0xCB, 0xE8]
  | .set5_C => [0xCB, 0xE9]
  | .set5_D => [0xCB, 0xEA]
  | .set5_E => [0xCB, 0xEB]
  | .set5_H => [0xCB, 0xEC]
  | .set5_L => [0xCB, 0xED]
  | .set5_MemHL => [0xCB, 0xEE]
  | .set5_A => [0xCB, 0xEF]
  | .set6_B => [0xCB, 0xF0]
  | .set6_C => [0xCB, 0xF1]
  | .set6_D => [0xCB, 0xF2]
  | .set6_E => [0xCB, 0xF3]
  | .set6_H => [0xCB, 0xF4]
  | .set6_L => [0xCB, 0xF5]
  | .set6_MemHL => [0xCB, 0xF6]
  | .set6_A => [0xCB, 0xF7]
  | .set7_B => [0xCB, 0xF8]
  | .set7_C => [0xCB, 0xF9]
  | .set7_D => [0xCB, 0xFA]
  | .set7_E => [0xCB, 0xFB]
  | .set7_H => [0xCB, 0xFC]
  | .set7_L => [0xCB, 0xFD]
  | .set7_MemHL => [0xCB, 0xFE]
  | .set7_A => [0xCB, 0xFF]

/-- The first byte of the instruction. -/
def Instr.opcode (i : Instr) : Byte := (encode i).headD 0

/-- The longest instruction has three bytes (R110). -/
def maxInstrBytes : Nat := 3

/-- The bytes that a number of spec/opcode_table.json stands for, lowest address first, with zero bytes up to the
longest instruction. A row of the base page gives its opcode byte as bits 7..0, so the bytes count on from bit 0. A row
of the CB page gives `0xCB<cb>` as ONE 16-bit number: the first byte, 0xCB, is its bits 15..8 (the table's `match` and
`encoding` columns). DEDUCED, log entry 5. -/
def tableBytes (nbits w : Nat) : List Byte :=
  if nbits = 16 ∧ w / 256 % 256 = 0xCB then
    [0xCB, BitVec.ofNat 8 w, 0]
  else
    [BitVec.ofNat 8 w, BitVec.ofNat 8 (w / 256), BitVec.ofNat 8 (w / 65536)]

/-- The instruction the decoder reads from a number of spec/opcode_table.json; bits above `nbits` are 0. -/
def decodeTableWord (nbits w : Nat) : Option Instr :=
  match decode (tableBytes nbits (w % 2 ^ nbits)) with
  | .ok (i, _) => some i
  | .error _ => none

end Sys2Proof
end

