-- ==== Sys2Proof/Config.lean ====
section
/-! DEFINITION. The parameters of 00_scope.md R6 that a model takes as arguments: the ones a step or a host call reads are
`Params`, which `State` holds as it was constructed, and INIT_RAM is `InitRam`, which construction reads. Each has its
default beside it. The spec fixes every result, so no free value (opaque constant) is needed. -/

namespace Sys2Proof.Config

/-- The parameters that the running machine reads (R6). Nothing changes them after construction. -/
structure Params where
  /-- EI_DELAY: ticks from `EI` to IME = 1 (R354). -/
  eiDelay : Nat
  /-- DI_DELAY: ticks from `DI` to IME = 0 (R353). -/
  diDelay : Nat
  /-- HALT_WAKE_PC_DELTA modulo 65,536: what a HALT wake with IME = 0 adds to PC (R411). -/
  haltWakePcDelta : Word
  /-- CLOCK_RATE: cycles per second of the host's time (R142, R521). -/
  clockRate : Nat
  deriving DecidableEq, Repr

/-- The defaults of R6, which 95_test_vectors.md uses. -/
def Params.default : Params := { eiDelay := 2, diDelay := 1, haltWakePcDelta := 1, clockRate := 4194304 }

/-- INIT_RAM: what each byte array holds at reset, any byte value per location (R34, R50). A location beyond the end of its
list holds the default 0x00. -/
structure InitRam where
  vram : List Byte
  wram : List Byte
  oam : List Byte
  hram : List Byte
  cram : List Byte
  deriving DecidableEq, Repr

/-- The default of INIT_RAM (R6): every location holds 0x00. -/
def InitRam.default : InitRam := { vram := [], wram := [], oam := [], hram := [], cram := [] }

/-- The framebuffer's width in pixels (R33). -/
abbrev screenWidth : Nat := 160

/-- The framebuffer's height in pixels: the visible lines (R33). -/
abbrev screenHeight : Nat := 144

end Sys2Proof.Config
end

