-- ==== Sys2Proof/Machine/State.lean ====
section
/-! DEFINITION. The state of the whole core as plain data (10_state.md), the reasons a step can stop, and the state after
reset (10_state.md R50). One structure for each component the spec names; every field is read and written by the
operations of the other files of this folder. -/

namespace Sys2Proof.Machine

/-- Why the machine stops. The spec names one fault and calls it unreachable from any byte (R12, R145). -/
inductive Fault where
  /-- `fault InternalIndex`: a register or bank index out of range. Raised by nobody: the operands of `Instr` are
  typed, so no index is out of range and every arm and every bus access is total. Safe: it only could stop a run. -/
  | internalIndex
  deriving DecidableEq, Repr

/-- Why a step refuses an instruction. -/
inductive Refusal where
  /-- the arm of an instruction without a meaning. Raised by nobody: every arm of `exec` has its meaning. Safe. -/
  | notModelled (mnemonic : String)
  deriving DecidableEq, Repr

/-- A finite map from cell numbers to bytes in one canonical form (see `Memory.wf`): cell numbers strictly rising, and
no entry equal to what an unlisted cell reads as. -/
abbrev Memory := List Host.Cell

/-- The CPU's registers and control state (R20..R24, R26, R27). `f` keeps bits 3..0 zero (R21). -/
structure Cpu where
  a : Byte
  f : Byte
  b : Byte
  c : Byte
  d : Byte
  e : Byte
  h : Byte
  l : Byte
  sp : Word
  pc : Word
  ime : Bool
  imeEnableDelay : Option Nat
  imeDisableDelay : Option Nat
  halted : Bool
  stopped : Bool
  deriving DecidableEq, Repr

/-- The interrupt controller (R28): IF stores 5 bits, IE all 8. Bit i is source i of R400. -/
structure Irq where
  flag : BitVec 5
  enable : Byte
  deriving DecidableEq, Repr

/-- The timer (R29): DIV, TIMA, TMA, the 3 stored bits of TAC and the two hidden accumulators. -/
structure Timer where
  div : Byte
  tima : Byte
  tma : Byte
  tac : BitVec 3
  divAcc : Nat
  timaAcc : Nat
  deriving DecidableEq, Repr

/-- The PPU's four modes (R32). -/
inductive PpuMode where
  | hBlank | vBlank | oamSearch | transfer
  deriving DecidableEq, Repr

/-- A pixel of the framebuffer, a shade 0..3 (R33). -/
abbrev Shade := BitVec 2

/-- A row of the framebuffer, 160 pixels (R33). -/
abbrev PixelRow := Vector Shade Config.screenWidth

/-- The PPU (R30, R32, R33). `statBits` are bits 6..3 of STAT; its other bits are computed (R445). -/
structure Ppu where
  lcdc : Byte
  statBits : BitVec 4
  scy : Byte
  scx : Byte
  ly : Byte
  lyc : Byte
  bgp : Byte
  obp0 : Byte
  obp1 : Byte
  wy : Byte
  wx : Byte
  mode : PpuMode
  clock : Nat
  coincidence : Bool
  fb : Vector PixelRow Config.screenHeight
  deriving DecidableEq, Repr

/-- OAM DMA (R37). -/
structure Dma where
  source : Byte
  pending : Bool
  counter : Nat
  deriving DecidableEq, Repr

/-- The joypad's eight buttons and the two selection bits of P1 (R38): `selectAction` is bit 5, `selectDirection` bit 4,
each 0 (false) when its group is selected. -/
structure Joypad where
  a : Bool
  b : Bool
  select : Bool
  start : Bool
  right : Bool
  left : Bool
  up : Bool
  down : Bool
  selectAction : Bool
  selectDirection : Bool
  deriving DecidableEq, Repr

/-- The serial port (R39): SB, SC (bits 7 and 0 stored) and the bytes the host has not drained, oldest first. -/
structure Serial where
  sb : Byte
  sc : Byte
  out : List Byte
  deriving DecidableEq, Repr

/-- MBC1's banking mode (R36). -/
inductive BankingMode where
  | simple | advanced
  deriving DecidableEq, Repr

/-- MBC1's registers (R36). -/
structure Mbc1 where
  ramEnable : Bool
  romBankLow : BitVec 5
  bankHigh : BitVec 2
  mode : BankingMode
  deriving DecidableEq, Repr

/-- The mapper, chosen by the header byte 0x147 (R77). ROM-only cartridges have no mapper state (R36). -/
inductive Mapper where
  | romOnly
  | mbc1 (m : Mbc1)
  deriving DecidableEq, Repr

/-- The cartridge (R36): the ROM image (`rom` holds its bytes by offset, `romLen` its length), the header's ROM-size
code, the cartridge RAM's size in bytes, and the mapper. Cartridge RAM itself is in `State.mem`. -/
structure Cart where
  rom : Memory
  romLen : Nat
  romSizeCode : Byte
  ramSize : Nat
  mapper : Mapper
  deriving DecidableEq, Repr

/-- A diagnostic event (R40, R490). -/
inductive Diag where
  | echoAccess (addr : Word)
  | prohibitedAccess (addr : Word)
  | unknownOpcode (op : Byte)
  | unmappedAccess (addr : Word)
  deriving DecidableEq, Repr

/-- The whole machine. `mem` holds every writable byte array, each at its own cell numbers (Machine/Memory.lean):
VRAM, WRAM, OAM, HRAM and cartridge RAM (R34, R36). `diag` is the diagnostic log, oldest first (R40). `cycles` is what the
step in progress, or the last step, costs: the `cycles` of R12 and R140. `budget` is the remainder the host's `advance`
carries to its next call, in cycles and fractions of a cycle (R142). `params` are the parameters the console was
constructed with (R6); nothing changes them. -/
structure State where
  cpu : Cpu
  irq : Irq
  timer : Timer
  ppu : Ppu
  dma : Dma
  joypad : Joypad
  serial : Serial
  cart : Cart
  mem : Memory
  diag : List Diag
  cycles : Nat
  budget : Rat
  params : Config.Params
  deriving DecidableEq, Repr

/-- MBC1's registers at reset (R50). -/
def Mbc1.reset : Mbc1 :=
  { ramEnable := false, romBankLow := 1, bankHigh := 0, mode := .simple }

/-- The machine after reset (R50), with the cartridge of 95_test_vectors.md's conventions: a 32 KiB ROM-only image of
zero bytes, which is also what its own header bytes say (R77, R78). DESIGN CHOICE, log entry 6: the spec gives a console no
state before it has a cartridge; `State.construct` builds the reset state of any image, with any parameters. `cycles` and
`budget` are 0; the parameters are R6's defaults (log entries 1 to 4). -/
def State.reset : State where
  cpu := { a := 0x01, f := 0xB0, b := 0x00, c := 0x13, d := 0x00, e := 0xD8, h := 0x01, l := 0x4D,
           sp := 0xFFFE, pc := 0x0100, ime := false, imeEnableDelay := none, imeDisableDelay := none,
           halted := false, stopped := false }
  irq := { flag := 0x01, enable := 0x00 }
  timer := { div := 0xAB, tima := 0x00, tma := 0x00, tac := 0, divAcc := 0, timaAcc := 0 }
  ppu := { lcdc := 0x91, statBits := 0, scy := 0, scx := 0, ly := 0, lyc := 0, bgp := 0xFC, obp0 := 0xFF, obp1 := 0xFF,
           wy := 0, wx := 0, mode := .oamSearch, clock := 0, coincidence := true,
           fb := Vector.replicate Config.screenHeight (Vector.replicate Config.screenWidth 0) }
  dma := { source := 0xFF, pending := false, counter := 0 }
  joypad := { a := false, b := false, select := false, start := false, right := false, left := false, up := false,
              down := false, selectAction := false, selectDirection := false }
  serial := { sb := 0x00, sc := 0x00, out := [] }
  cart := { rom := [], romLen := 0x8000, romSizeCode := 0, ramSize := 0, mapper := .romOnly }
  mem := []
  diag := []
  cycles := 0
  budget := 0
  params := .default

end Sys2Proof.Machine
end

