-- ==== Sys2Proof/Machine/Memory.lean ====
section
/-! DEFINITION. Byte storage: reading and writing the canonical list of cells, and where each byte array of the machine
lies in it. -/

namespace Sys2Proof.Machine

/-- What a cell that is not listed reads as: INIT_RAM's default 0x00 (R6, R50); a location that INIT_RAM gives another value
is listed (`initialMemory`). A ROM image is stored in the same form, so its zero bytes are the unlisted ones. -/
def Memory.unlisted : Byte := 0x00

/-- The byte of cell k. -/
def Memory.read (m : Memory) (k : Nat) : Byte :=
  match m with
  | [] => Memory.unlisted
  | (j, v) :: rest => if j = k then v else Memory.read rest k

/-- The cells other than k. -/
def Memory.erase (m : Memory) (k : Nat) : Memory :=
  match m with
  | [] => []
  | (j, v) :: rest => if j = k then Memory.erase rest k else (j, v) :: Memory.erase rest k

/-- Puts cell k before the first cell with a greater number. -/
def Memory.insert (m : Memory) (k : Nat) (v : Byte) : Memory :=
  match m with
  | [] => [(k, v)]
  | (j, w) :: rest => if k < j then (k, v) :: (j, w) :: rest else (j, w) :: Memory.insert rest k v

/-- Sets cell k to v; a value equal to the unlisted one removes the entry. -/
def Memory.write (m : Memory) (k : Nat) (v : Byte) : Memory :=
  if v = Memory.unlisted then Memory.erase m k else Memory.insert (Memory.erase m k) k v

/-- The canonical form: cell numbers strictly rising, no entry equal to the unlisted value. -/
abbrev Memory.wf (m : Memory) : Prop :=
  m.Pairwise (fun x y => x.1 < y.1) ∧ ∀ c ∈ m, c.2 ≠ Memory.unlisted

/-- The listed form of a byte array, its first byte at cell `base`. -/
def Memory.ofBytes (base : Nat) (bytes : List Byte) : Memory :=
  match bytes with
  | [] => []
  | v :: rest =>
    if v = Memory.unlisted then Memory.ofBytes (base + 1) rest else (base, v) :: Memory.ofBytes (base + 1) rest

/-! ## The byte arrays (R34, R36): each has its own cells, in the order of their bus addresses; cartridge RAM, up to
128 KiB behind an 8 KiB window, lies above all bus addresses. -/

/-- The cell of `VRAM[i]`. -/
def vramCell (i : Nat) : Nat := 0x8000 + i

/-- The cell of `WRAM[i]`. -/
def wramCell (i : Nat) : Nat := 0xC000 + i

/-- The cell of `OAM[i]`. -/
def oamCell (i : Nat) : Nat := 0xFE00 + i

/-- The cell of `HRAM[i]`. -/
def hramCell (i : Nat) : Nat := 0xFF80 + i

/-- The cell of `CRAM[i]`. -/
def cramCell (i : Nat) : Nat := 0x10000 + i

/-- `VRAM[i]`. -/
def State.vram (s : State) (i : Nat) : Byte := Memory.read s.mem (vramCell i)

/-- `OAM[i]`. -/
def State.oam (s : State) (i : Nat) : Byte := Memory.read s.mem (oamCell i)

/-- Writes one cell of the machine's byte storage. -/
def State.writeCell (s : State) (k : Nat) (v : Byte) : State := { s with mem := Memory.write s.mem k v }

/-- Appends an event to the diagnostic log (R490). -/
def State.logDiag (s : State) (e : Diag) : State := { s with diag := s.diag ++ [e] }

end Sys2Proof.Machine
end

