-- ==== Sys2Proof/Machine/Cartridge.lean ====
section
/-! DEFINITION. The cartridge and its mapper (20_memory.md R77..R83). -/

namespace Sys2Proof.Machine

/-- The number of 16 KiB ROM banks, `(32 KiB << rom_size_code) / 16 KiB` (R81). -/
def Cart.nbanks (c : Cart) : Nat := (0x8000 <<< c.romSizeCode.toNat) / 0x4000

/-- `ROM[i]`, or 0xFF beyond the image (R79, R81). -/
def Cart.romAt (c : Cart) (i : Nat) : Byte := if i < c.romLen then Memory.read c.rom i else 0xFF

/-- The ROM offset `rom_byte(bank, off)` reads (R81). -/
def Cart.bankOffset (c : Cart) (bank off : Nat) : Nat := bank % c.nbanks * 0x4000 + off

/-- The bank in the window 0x0000..0x3FFF (R80). -/
def Mbc1.lowBank (m : Mbc1) : Nat :=
  match m.mode with
  | .simple => 0
  | .advanced => m.bankHigh.toNat * 0x20

/-- The bank in the window 0x4000..0x7FFF (R81). -/
def Mbc1.highBank (m : Mbc1) : Nat := m.bankHigh.toNat * 0x20 + m.romBankLow.toNat

/-- The ROM offset that the address a in 0x0000..0x7FFF reads (R79, R80, R81). -/
def Cart.romOffset (c : Cart) (a : Nat) : Nat :=
  match c.mapper with
  | .romOnly => a
  | .mbc1 m => if a < 0x4000 then c.bankOffset m.lowBank a else c.bankOffset m.highBank (a - 0x4000)

/-- A read of the ROM window (R79, R80, R81). -/
def Cart.readRom (c : Cart) (a : Nat) : Byte := c.romAt (c.romOffset a)

/-- A write to 0x0000..0x7FFF of an MBC1 cartridge (R82). -/
def Mbc1.write (m : Mbc1) (a : Nat) (v : Byte) : Mbc1 :=
  if a < 0x2000 then { m with ramEnable := v &&& 0x1F == 0x0A }
  else if a < 0x4000 then { m with romBankLow := if v.truncate 5 = (0 : BitVec 5) then 1 else v.truncate 5 }
  else if a < 0x6000 then { m with bankHigh := v.truncate 2 }
  else { m with mode := if v.getLsbD 0 then .advanced else .simple }

/-- A write to the ROM window: ignored by ROM-only (R79), a register write on MBC1 (R82). -/
def Cart.writeRom (c : Cart) (a : Nat) (v : Byte) : Cart :=
  match c.mapper with
  | .romOnly => c
  | .mbc1 m => { c with mapper := .mbc1 (m.write a v) }

/-- The offset into cartridge RAM before the reduction modulo its size (R83); `off` is `a - 0xA000`. -/
def Mbc1.ramOffset (m : Mbc1) (off : Nat) : Nat :=
  match m.mode with
  | .simple => off
  | .advanced => off + m.bankHigh.toNat * 0x2000

/-- The index into CRAM that the RAM window's byte `off` names, or none where the window reads 0xFF and drops writes
(R79, R83). -/
def Cart.ramIndex (c : Cart) (off : Nat) : Option Nat :=
  match c.mapper with
  | .romOnly => none
  | .mbc1 m => if m.ramEnable ∧ 0 < c.ramSize then some (m.ramOffset off % c.ramSize) else none

/-- Why no console is constructed from an image (R78, R500). -/
inductive ConstructError where
  /-- shorter than 0x150 bytes -/
  | tooShort
  /-- the mapper-type byte at 0x147 -/
  | unsupportedMapper (kind : Byte)
  /-- the RAM-size code at 0x149 -/
  | unknownRamSize (code : Byte)
  deriving DecidableEq, Repr

/-- The mapper of a type byte (R77), its registers as at reset (R50). -/
def mapperOf (kind : Byte) : Option Mapper :=
  if kind = 0x00 then some .romOnly
  else if kind = 0x01 ∨ kind = 0x02 ∨ kind = 0x03 then some (.mbc1 Mbc1.reset)
  else none

/-- The cartridge RAM size of a RAM-size code (R78). -/
def ramSizeOf (code : Byte) : Option Nat :=
  if code = 0 then some 0
  else if code = 1 then some 0x800
  else if code = 2 then some 0x2000
  else if code = 3 then some 0x8000
  else if code = 4 then some 0x20000
  else if code = 5 then some 0x10000
  else none

/-- The cartridge of an image (R77, R78). -/
def Cart.ofImage (image : List Byte) : Except ConstructError Cart :=
  if image.length < 0x150 then .error .tooShort
  else
    match mapperOf (image.getD 0x147 0), ramSizeOf (image.getD 0x149 0) with
    | none, _ => .error (.unsupportedMapper (image.getD 0x147 0))
    | some _, none => .error (.unknownRamSize (image.getD 0x149 0))
    | some m, some size =>
      .ok { rom := Memory.ofBytes 0 image, romLen := image.length, romSizeCode := image.getD 0x148 0, ramSize := size, mapper := m }

/-- Byte storage at reset: INIT_RAM in VRAM, WRAM, OAM, HRAM and the cartridge's RAM (R50). What INIT_RAM lists beyond an
array's size is no location. -/
def initialMemory (ram : Config.InitRam) (ramSize : Nat) : Memory :=
  Memory.ofBytes (vramCell 0) (ram.vram.take 0x2000) ++ (Memory.ofBytes (wramCell 0) (ram.wram.take 0x2000) ++
    (Memory.ofBytes (oamCell 0) (ram.oam.take 160) ++ (Memory.ofBytes (hramCell 0) (ram.hram.take 127) ++
      Memory.ofBytes (cramCell 0) (ram.cram.take ramSize))))

/-- The only reset: the console constructed from an image, with the parameters and INIT_RAM given (R6), every state at its
value of R50, or no console (R500). -/
def State.construct (params : Config.Params) (ram : Config.InitRam) (image : List Byte) : Except ConstructError State :=
  match Cart.ofImage image with
  | .error e => .error e
  | .ok c => .ok { State.reset with params := params, cart := c, mem := initialMemory ram c.ramSize }

end Sys2Proof.Machine
end

