-- ==== Sys2Proof/Machine/Interrupts.lean ====
section
/-! DEFINITION. The interrupt controller and the interrupt master enable (60_exceptions.md R400..R408). Interrupt entry
itself is in Machine/Ops.lean, since it pushes through the bus. -/

namespace Sys2Proof.Machine

/-- The five interrupt sources (R400). -/
inductive IrqSource where
  | vBlank | lcdStat | timer | serial | joypad
  deriving DecidableEq, Repr

/-- The source's index, its bit in IF and IE and its priority, 0 highest (R400). -/
def IrqSource.index : IrqSource → Nat
  | .vBlank => 0
  | .lcdStat => 1
  | .timer => 2
  | .serial => 3
  | .joypad => 4

/-- Handler address = 0x40 + 8 × index (R400). -/
def IrqSource.handler (i : IrqSource) : Word := BitVec.ofNat 16 (0x40 + 8 * i.index)

/-- The source's bit of a 5-bit mask. -/
def IrqSource.mask (i : IrqSource) : BitVec 5 := BitVec.ofNat 5 (2 ^ i.index)

/-- `raise_irq(i)`: `IF[i] <- 1` (R401). -/
def State.raiseIrq (s : State) (i : IrqSource) : State :=
  { s with irq := { s.irq with flag := s.irq.flag ||| i.mask } }

/-- `IF[i] <- 0` (R410). -/
def State.clearIrq (s : State) (i : IrqSource) : State :=
  { s with irq := { s.irq with flag := s.irq.flag &&& ~~~i.mask } }

/-- The mask of pending interrupts, `IE & IF & 0x1F` (R402). -/
def State.pendingMask (s : State) : BitVec 5 := s.irq.enable.truncate 5 &&& s.irq.flag

/-- `next_triggered()`: the pending source of the lowest index, or none (R402). -/
def State.nextTriggered (s : State) : Option IrqSource :=
  let m := s.pendingMask
  if m.getLsbD 0 then some .vBlank
  else if m.getLsbD 1 then some .lcdStat
  else if m.getLsbD 2 then some .timer
  else if m.getLsbD 3 then some .serial
  else if m.getLsbD 4 then some .joypad
  else none

/-- The read value of IF, `0xE0 | IF[4:0]` (R403). -/
def readIf (q : Irq) : Byte := 0xE0 ||| q.flag.zeroExtend 8

/-- Writing IF stores bits 4..0 (R403). -/
def writeIf (q : Irq) (v : Byte) : Irq := { q with flag := v.truncate 5 }

/-- Writing IE stores all 8 bits (R403). -/
def writeIe (q : Irq) (v : Byte) : Irq := { q with enable := v }

/-- The enable counter's tick (R407, first line). -/
def tickEnable (c : Cpu) : Cpu :=
  match c.imeEnableDelay with
  | none => c
  | some n => if n - 1 = 0 then { c with ime := true, imeEnableDelay := none } else { c with imeEnableDelay := some (n - 1) }

/-- The disable counter's tick (R407, second line). -/
def tickDisable (c : Cpu) : Cpu :=
  match c.imeDisableDelay with
  | none => c
  | some n => if n - 1 = 0 then { c with ime := false, imeDisableDelay := none } else { c with imeDisableDelay := some (n - 1) }

/-- `tick_ime()`: the enable counter, then the disable counter (R407). -/
def State.tickIme (s : State) : State := { s with cpu := tickDisable (tickEnable s.cpu) }

end Sys2Proof.Machine
end

