-- ==== Sys2Proof/Machine/Joypad.lean ====
section
/-! DEFINITION. The joypad (60_exceptions.md R470..R472). -/

namespace Sys2Proof.Machine

/-- The eight buttons (R38). -/
inductive Button where
  | a | b | select | start | right | left | up | down
  deriving DecidableEq, Repr

/-- The button belongs to the action group (R38). -/
def Button.isAction : Button → Bool
  | .a | .b | .select | .start => true
  | .right | .left | .up | .down => false

/-- `pressed[b]` (R38); also the host's `get_button(b)` (R491). -/
def Joypad.pressed (j : Joypad) : Button → Bool
  | .a => j.a
  | .b => j.b
  | .select => j.select
  | .start => j.start
  | .right => j.right
  | .left => j.left
  | .up => j.up
  | .down => j.down

/-- Sets `pressed[b]` (R38). -/
def Joypad.setPressed (j : Joypad) (btn : Button) (v : Bool) : Joypad :=
  match btn with
  | .a => { j with a := v }
  | .b => { j with b := v }
  | .select => { j with select := v }
  | .start => { j with start := v }
  | .right => { j with right := v }
  | .left => { j with left := v }
  | .up => { j with up := v }
  | .down => { j with down := v }

/-- The button's group is selected: its selection bit is 0 (R38). -/
def Joypad.groupSelected (j : Joypad) (btn : Button) : Bool :=
  if btn.isAction then !j.selectAction else !j.selectDirection

/-- One active-low button line: 0 when a pressed button of a selected group drives it (R470). -/
def Joypad.line (j : Joypad) (action direction : Button) : Bool :=
  !((j.pressed action && !j.selectAction) || (j.pressed direction && !j.selectDirection))

/-- The read value of P1, `0xC0 | p1_select[5:4] << 4 | low` (R470): action A 0, B 1, Select 2, Start 3, direction
Right 0, Left 1, Up 2, Down 3. -/
def readP1 (j : Joypad) : Byte :=
  BitVec.ofNat 8 (0xC0 + 0x20 * bitVal j.selectAction + 0x10 * bitVal j.selectDirection
    + 8 * bitVal (j.line .start .down) + 4 * bitVal (j.line .select .up) + 2 * bitVal (j.line .b .left)
    + bitVal (j.line .a .right))

/-- Writing P1 stores bits 5..4 only (R471). -/
def writeP1 (j : Joypad) (v : Byte) : Joypad :=
  { j with selectAction := v.getLsbD 5, selectDirection := v.getLsbD 4 }

/-- The host's `set_button(b, pressed)`: a press of a button whose group is selected raises Joypad (R472). -/
def State.setButton (s : State) (btn : Button) (v : Bool) : State :=
  let t := { s with joypad := s.joypad.setPressed btn v }
  if v && !s.joypad.pressed btn && s.joypad.groupSelected btn then t.raiseIrq .joypad else t

end Sys2Proof.Machine
end

