-- ==== Sys2Proof/Machine/Ppu.lean ====
section
/-! DEFINITION. The PPU: registers, mode machine and rendering of a scanline (60_exceptions.md R440..R456). -/

namespace Sys2Proof.Machine

/-! ## Registers -/

/-- The PPU registers in address order 0xFF40..0xFF4B, without the DMA register 0xFF46 (R30). -/
inductive PpuReg where
  | lcdc | stat | scy | scx | ly | lyc | bgp | obp0 | obp1 | wy | wx
  deriving DecidableEq, Repr

/-- `mode_number(mode)` (R32). -/
def PpuMode.number : PpuMode → Nat
  | .hBlank => 0
  | .vBlank => 1
  | .oamSearch => 2
  | .transfer => 3

/-- The read value of STAT, `0x80 | STAT_stored[6:3] << 3 | coincidence << 2 | mode_number(mode)` (R445). -/
def readStat (p : Ppu) : Byte :=
  BitVec.ofNat 8 (0x80 + 8 * p.statBits.toNat + 4 * bitVal p.coincidence + p.mode.number)

/-- PPU register reads (R64). -/
def readPpu (p : Ppu) : PpuReg → Byte
  | .lcdc => p.lcdc
  | .stat => readStat p
  | .scy => p.scy
  | .scx => p.scx
  | .ly => p.ly
  | .lyc => p.lyc
  | .bgp => p.bgp
  | .obp0 => p.obp0
  | .obp1 => p.obp1
  | .wy => p.wy
  | .wx => p.wx

/-- PPU register writes: LY is read-only, STAT stores bits 6..3 (R64). -/
def writePpu (p : Ppu) (r : PpuReg) (v : Byte) : Ppu :=
  match r with
  | .lcdc => { p with lcdc := v }
  | .stat => { p with statBits := v.extractLsb' 3 4 }
  | .scy => { p with scy := v }
  | .scx => { p with scx := v }
  | .ly => p
  | .lyc => { p with lyc := v }
  | .bgp => { p with bgp := v }
  | .obp0 => { p with obp0 := v }
  | .obp1 => { p with obp1 := v }
  | .wy => { p with wy := v }
  | .wx => { p with wx := v }

/-! ## Rendering -/

/-- `shade(pal, id) = (pal >> (2 * id)) & 3` (R31). -/
def shade (pal : Byte) (id : Nat) : Shade := (pal >>> (2 * id)).truncate 2

/-- `tile_row(t, r)`: the two bytes of row r of the tile at bus address t (R453). -/
def State.tileRow (s : State) (t r : Nat) : Byte × Byte :=
  (s.vram (t + 2 * r - 0x8000), s.vram (t + 2 * r + 1 - 0x8000))

/-- `colour_id(lo, hi, c) = hi[7 - c] << 1 | lo[7 - c]` (R453). -/
def colourId (row : Byte × Byte) (c : Nat) : Nat :=
  2 * bitVal (row.2.getLsbD (7 - c)) + bitVal (row.1.getLsbD (7 - c))

/-- `bg_tile_addr(idx)`: `0x8000 + 16 * idx`, or `0x9000 + 16 * sext8(idx)` when LCDC[4] is 0 (R452). -/
def bgTileAddr (lcdc idx : Byte) : Nat :=
  if lcdc.getLsbD 4 then 0x8000 + 16 * idx.toNat else (0x9000 + 16 * idx.toInt).toNat

/-- The index, in VRAM, of the map entry for the pixel (px, py) of the 256 × 256 background (R451). -/
def bgMapIndex (lcdc px py : Byte) : Nat :=
  (if lcdc.getLsbD 3 then 0x1C00 else 0x1800) + py.toNat / 8 * 32 + px.toNat / 8

/-- The background's shade at column x of line ly (R451). -/
def State.bgShade (s : State) (ly x : Nat) : Shade :=
  let py : Byte := BitVec.ofNat 8 ly + s.ppu.scy
  let px : Byte := BitVec.ofNat 8 x + s.ppu.scx
  let idx := s.vram (bgMapIndex s.ppu.lcdc px py)
  let row := s.tileRow (bgTileAddr s.ppu.lcdc idx) (py.toNat % 8)
  shade s.ppu.bgp (colourId row (px.toNat % 8))

/-- The height of a sprite, 16 or 8 pixels by LCDC[2] (R454). -/
def spriteHeight (lcdc : Byte) : Nat := if lcdc.getLsbD 2 then 16 else 8

/-- The top line of OAM entry k, a signed value (R454). -/
def State.spriteTop (s : State) (k : Nat) : Int := (s.oam (4 * k)).toNat - 16

/-- The span of entry k covers line ly: `top <= ly < top + h` (R454). -/
def State.spriteCovers (s : State) (ly k : Nat) : Bool :=
  decide (s.spriteTop k ≤ ly ∧ (ly : Int) < s.spriteTop k + spriteHeight s.ppu.lcdc)

/-- The entries drawn on line ly: the first ten, in table order, whose span covers it (R454). -/
def State.spritesOnLine (s : State) (ly : Nat) : List Nat :=
  ((List.range 40).filter (s.spriteCovers ly)).take 10

/-- The row of its tile that entry k shows on line ly, after the Y flip (R455). -/
def State.spriteRow (s : State) (ly k : Nat) : Nat :=
  let r := ((ly : Int) - s.spriteTop k).toNat
  if (s.oam (4 * k + 3)).getLsbD 6 then spriteHeight s.ppu.lcdc - 1 - r else r

/-- The tile of entry k: in 8 × 16 mode bit 0 of the index is ignored (R455). -/
def State.spriteTile (s : State) (k : Nat) : Nat :=
  let t := s.oam (4 * k + 2)
  (if s.ppu.lcdc.getLsbD 2 then t &&& 0xFE else t).toNat

/-- The palette of entry k (R455). -/
def State.spritePalette (s : State) (k : Nat) : Byte :=
  if (s.oam (4 * k + 3)).getLsbD 4 then s.ppu.obp1 else s.ppu.obp0

/-- The pixel that entry k has in its column col, or none where the colour id is 0 (R455). -/
def State.spritePixel (s : State) (ly k col : Nat) : Option Shade :=
  let row := s.tileRow (0x8000 + 16 * s.spriteTile k) (s.spriteRow ly k)
  let c := if (s.oam (4 * k + 3)).getLsbD 5 then 7 - col else col
  let id := colourId row c
  if id = 0 then none else some (shade (s.spritePalette k) id)

/-- Draws column col of entry k: the pixel at `sx = X - 8 + col` where `0 <= sx <= 159` (R455). -/
def State.drawSpriteColumn (s : State) (ly k : Nat) (row : PixelRow) (col : Nat) : PixelRow :=
  let sx : Int := (s.oam (4 * k + 1)).toNat - 8 + col
  match s.spritePixel ly k col with
  | none => row
  | some v => if 0 ≤ sx then row.setIfInBounds sx.toNat v else row

/-- `draw_sprite(k)` on line ly (R455). -/
def State.drawSprite (s : State) (ly : Nat) (row : PixelRow) (k : Nat) : PixelRow :=
  (List.range 8).foldl (s.drawSpriteColumn ly k) row

/-- The background of line ly over what the row held: nothing is written when LCDC[0] is 0 (R451). -/
def State.backgroundRow (s : State) (ly : Nat) (old : PixelRow) : PixelRow :=
  if s.ppu.lcdc.getLsbD 0 then Vector.ofFn (fun x : Fin Config.screenWidth => s.bgShade ly x.val) else old

/-- Line ly as rendered over what the row held: the background, then the sprites in table order (R450, R455). -/
def State.renderedRow (s : State) (ly : Nat) (old : PixelRow) : PixelRow :=
  (s.spritesOnLine ly).foldl (s.drawSprite ly) (s.backgroundRow ly old)

/-- `render_line(LY)` (R450); it runs for LY in 0..143 only. -/
def State.renderLine (s : State) : State :=
  let ly := s.ppu.ly.toNat
  if h : ly < Config.screenHeight then
    { s with ppu := { s.ppu with fb := s.ppu.fb.set ly (s.renderedRow ly s.ppu.fb[ly]) } }
  else s

/-! ## The mode machine -/

/-- The period of a mode in cycles (R441). -/
def PpuMode.period : PpuMode → Nat
  | .oamSearch => 80
  | .transfer => 172
  | .hBlank => 204
  | .vBlank => 456

/-- The HBlank transition of the PPU's own state: LY + 1, then VBlank at 144 or the next OAMSearch (R441, R443). -/
def leaveHBlank (p : Ppu) : Ppu :=
  { p with ly := p.ly + 1, mode := if p.ly + 1 = 144 then .vBlank else .oamSearch }

/-- The VBlank transition of the PPU's own state: LY + 1, and past 153 line 0 in OAMSearch (R441). -/
def leaveVBlankLine (p : Ppu) : Ppu :=
  if 153 < (p.ly + 1).toNat then { p with ly := 0, mode := .oamSearch } else { p with ly := p.ly + 1 }

/-- `transition()` by the current mode (R441). -/
def State.ppuTransition (s : State) : State :=
  match s.ppu.mode with
  | .oamSearch => { s with ppu := { s.ppu with mode := .transfer } }
  | .transfer =>
    let t := s.renderLine
    { t with ppu := { t.ppu with mode := .hBlank } }
  | .hBlank =>
    let t := { s with ppu := leaveHBlank s.ppu }
    if t.ppu.ly = 144 then t.raiseIrq .vBlank else t
  | .vBlank => { s with ppu := leaveVBlankLine s.ppu }

/-- The loop of R440: transitions while `ppu_clock >= period(mode)`. Each takes at least one cycle off the clock, so as
many rounds as the clock has cycles are enough. -/
def State.ppuRun (s : State) : Nat → State
  | 0 => s
  | fuel + 1 =>
    if s.ppu.mode.period ≤ s.ppu.clock then
      { s with ppu := { s.ppu with clock := s.ppu.clock - s.ppu.mode.period } }.ppuTransition.ppuRun fuel
    else s

/-- The compare of LY and LYC at the start of every update (R440, R442). -/
def State.ppuCompare (s : State) : State :=
  let eq : Bool := s.ppu.ly == s.ppu.lyc
  let t := { s with ppu := { s.ppu with coincidence := eq } }
  if eq then t.raiseIrq .lcdStat else t

/-- `ppu_update(c)` (R440). -/
def State.ppuUpdate (s : State) (c : Nat) : State :=
  let t := s.ppuCompare
  let u := { t with ppu := { t.ppu with clock := t.ppu.clock + c } }
  u.ppuRun u.ppu.clock

end Sys2Proof.Machine
end

