-- ==== Sys2Proof/Machine/Serial.lean ====
section
/-! DEFINITION. The serial port (60_exceptions.md R480..R482). -/

namespace Sys2Proof.Machine

/-- The read value of SC, `0x7E | (SC & 0x81)` (R480). -/
def readSc (p : Serial) : Byte := 0x7E ||| (p.sc &&& 0x81)

/-- Writing SB (R481). -/
def State.writeSb (s : State) (v : Byte) : State := { s with serial := { s.serial with sb := v } }

/-- Writing SC: a transfer with the internal clock completes inside the write (R481). -/
def State.writeSc (s : State) (v : Byte) : State :=
  let sc := v &&& 0x81
  if sc = 0x81 then
    { s with serial := { s.serial with sc := sc &&& 0x7F, out := s.serial.out ++ [s.serial.sb] } }.raiseIrq .serial
  else
    { s with serial := { s.serial with sc := sc } }

/-- `serial_update(c)` does nothing (R482). -/
def State.serialUpdate (s : State) (_cycles : Nat) : State := s

/-- The host's drain call: the oldest byte of `serial_out`, removed, or none (R482). -/
def State.drainSerial (s : State) : Option Byte × State :=
  match s.serial.out with
  | [] => (none, s)
  | v :: rest => (some v, { s with serial := { s.serial with out := rest } })

end Sys2Proof.Machine
end

