-- ==== Sys2Proof/Machine/Timer.lean ====
section
/-! DEFINITION. The timer (60_exceptions.md R430..R433). -/

namespace Sys2Proof.Machine

/-- The timer's registers in address order 0xFF04..0xFF07 (R29). -/
inductive TimerReg where
  | div | tima | tma | tac
  deriving DecidableEq, Repr

/-- Timer register reads (R430). -/
def readTimer (t : Timer) : TimerReg → Byte
  | .div => t.div
  | .tima => t.tima
  | .tma => t.tma
  | .tac => 0xF8 ||| t.tac.zeroExtend 8

/-- Timer register writes (R431). -/
def writeTimer (t : Timer) (r : TimerReg) (v : Byte) : Timer :=
  match r with
  | .div => { t with div := 0, divAcc := 0 }
  | .tima => { t with tima := v }
  | .tma => { t with tma := v }
  | .tac => { t with tac := v.truncate 3 }

/-- The divider's period in cycles (R6, R432). -/
def divPeriod : Nat := 256

/-- The counter's period in cycles for `TAC[1:0]` (R6, R432). -/
def timaPeriod (tac : BitVec 3) : Nat :=
  match tac.toNat % 4 with
  | 0 => 1024
  | 1 => 16
  | 2 => 64
  | _ => 256

/-- `TAC[2]`: the timer is enabled (R29). -/
def timerEnabled (t : Timer) : Bool := t.tac.getLsbD 2

/-- The divider's part of `timer_update`: the loop of R432 runs `div_acc / 256` times, each increments DIV modulo 256. -/
def updateDiv (c : Nat) (t : Timer) : Timer :=
  { t with div := t.div + BitVec.ofNat 8 ((t.divAcc + c) / divPeriod), divAcc := (t.divAcc + c) % divPeriod }

/-- `tima_tick()` (R433). -/
def State.timaTick (s : State) : State :=
  if s.timer.tima = 0xFF then
    { s with timer := { s.timer with tima := s.timer.tma } }.raiseIrq .timer
  else
    { s with timer := { s.timer with tima := s.timer.tima + 1 } }

/-- n ticks of the counter, one after another. -/
def State.timaTicks (s : State) : Nat → State
  | 0 => s
  | n + 1 => s.timaTick.timaTicks n

/-- The counter's part of `timer_update`: the loop of R432 ticks `tima_acc / p` times and leaves the remainder. -/
def State.updateTima (s : State) (c : Nat) : State :=
  if timerEnabled s.timer then
    let acc := s.timer.timaAcc + c
    let p := timaPeriod s.timer.tac
    { s with timer := { s.timer with timaAcc := acc % p } }.timaTicks (acc / p)
  else s

/-- `timer_update(c)` (R432). -/
def State.timerUpdate (s : State) (c : Nat) : State :=
  { s with timer := updateDiv c s.timer }.updateTima c

end Sys2Proof.Machine
end

