-- ==== Sys2Proof/Machine/Bus.lean ====
section
/-! DEFINITION. The memory bus: address decoding and the two primitives read8 and write8 (20_memory.md R60..R65), and OAM
DMA, which goes through them (R70..R72). -/

namespace Sys2Proof.Machine

/-- What an address reaches (R61), with the offset into a byte array where it has one. -/
inductive Target where
  | rom (a : Nat)
  | vram (off : Nat)
  | cartRam (off : Nat)
  | wram (off : Nat)
  | echo (off : Nat)
  | oam (off : Nat)
  | prohibited
  | joypad
  | serialData
  | serialControl
  | timer (r : TimerReg)
  | intFlag
  | audio
  | ppu (r : PpuReg)
  | dma
  | hram (off : Nat)
  | intEnable
  | unmapped
  deriving DecidableEq, Repr

/-- The I/O page 0xFF00..0xFF7F, by the low byte of the address (R61). -/
def ioTarget (n : Nat) : Target :=
  match n with
  | 0x00 => .joypad
  | 0x01 => .serialData
  | 0x02 => .serialControl
  | 0x04 => .timer .div
  | 0x05 => .timer .tima
  | 0x06 => .timer .tma
  | 0x07 => .timer .tac
  | 0x0F => .intFlag
  | 0x40 => .ppu .lcdc
  | 0x41 => .ppu .stat
  | 0x42 => .ppu .scy
  | 0x43 => .ppu .scx
  | 0x44 => .ppu .ly
  | 0x45 => .ppu .lyc
  | 0x46 => .dma
  | 0x47 => .ppu .bgp
  | 0x48 => .ppu .obp0
  | 0x49 => .ppu .obp1
  | 0x4A => .ppu .wy
  | 0x4B => .ppu .wx
  | n => if 0x10 ≤ n ∧ n ≤ 0x3F then .audio else .unmapped

/-- The address decode table, first match wins (R61). -/
def target (addr : Word) : Target :=
  let a := addr.toNat
  if a < 0x8000 then .rom a
  else if a < 0xA000 then .vram (a - 0x8000)
  else if a < 0xC000 then .cartRam (a - 0xA000)
  else if a < 0xE000 then .wram (a - 0xC000)
  else if a < 0xFE00 then .echo (a - 0xE000)
  else if a < 0xFEA0 then .oam (a - 0xFE00)
  else if a < 0xFF00 then .prohibited
  else if a < 0xFF80 then ioTarget (a - 0xFF00)
  else if a < 0xFFFF then .hram (a - 0xFF80)
  else .intEnable

/-- The storage cell a target is, if it is one: VRAM, WRAM (also through its echo), OAM, HRAM, or a byte of cartridge RAM
that the RAM window reaches (R61, R62, R83). -/
def State.targetCell (s : State) : Target → Option Nat
  | .vram off => some (vramCell off)
  | .cartRam off => (s.cart.ramIndex off).map cramCell
  | .wram off => some (wramCell off)
  | .echo off => some (wramCell off)
  | .oam off => some (oamCell off)
  | .hram off => some (hramCell off)
  | .rom _ | .prohibited | .joypad | .serialData | .serialControl | .timer _ | .intFlag | .audio | .ppu _ | .dma
  | .intEnable | .unmapped => none

/-- The storage cell an address names, if any. -/
def State.cellOf (s : State) (a : Word) : Option Nat := s.targetCell (target a)

/-- The value a target reads as (R61). -/
def State.readTarget (s : State) : Target → Byte
  | .rom a => s.cart.readRom a
  | .vram off => Memory.read s.mem (vramCell off)
  | .cartRam off =>
    match s.cart.ramIndex off with
    | none => 0xFF
    | some i => Memory.read s.mem (cramCell i)
  | .wram off => Memory.read s.mem (wramCell off)
  | .echo off => Memory.read s.mem (wramCell off)
  | .oam off => Memory.read s.mem (oamCell off)
  | .prohibited => 0xFF
  | .joypad => readP1 s.joypad
  | .serialData => s.serial.sb
  | .serialControl => readSc s.serial
  | .timer r => readTimer s.timer r
  | .intFlag => readIf s.irq
  | .audio => 0x00
  | .ppu r => readPpu s.ppu r
  | .dma => s.dma.source
  | .hram off => Memory.read s.mem (hramCell off)
  | .intEnable => s.irq.enable
  | .unmapped => 0xFF

/-- Starting OAM DMA (R70). -/
def startDma (v : Byte) : Dma := { source := v, pending := true, counter := 0 }

/-- What writing v to a target does (R61). -/
def State.writeTarget (s : State) (t : Target) (v : Byte) : State :=
  match t with
  | .rom a => { s with cart := s.cart.writeRom a v }
  | .vram off => s.writeCell (vramCell off) v
  | .cartRam off =>
    match s.cart.ramIndex off with
    | none => s
    | some i => s.writeCell (cramCell i) v
  | .wram off => s.writeCell (wramCell off) v
  | .echo off => s.writeCell (wramCell off) v
  | .oam off => s.writeCell (oamCell off) v
  | .prohibited => s
  | .joypad => { s with joypad := writeP1 s.joypad v }
  | .serialData => s.writeSb v
  | .serialControl => s.writeSc v
  | .timer r => { s with timer := writeTimer s.timer r v }
  | .intFlag => { s with irq := writeIf s.irq v }
  | .audio => s
  | .ppu r => { s with ppu := writePpu s.ppu r v }
  | .dma => { s with dma := startDma v }
  | .hram off => s.writeCell (hramCell off) v
  | .intEnable => { s with irq := writeIe s.irq v }
  | .unmapped => s

/-- The diagnostic event of an access, read or write, to an address (R61, R62, R63, R490). -/
def accessDiag (a : Word) : Option Diag :=
  match target a with
  | .echo _ => some (.echoAccess a)
  | .prohibited => some (.prohibitedAccess a)
  | .unmapped => some (.unmappedAccess a)
  | .rom _ | .vram _ | .cartRam _ | .wram _ | .oam _ | .joypad | .serialData | .serialControl | .timer _ | .intFlag
  | .audio | .ppu _ | .dma | .hram _ | .intEnable => none

/-- The state after the diagnostic of one access; a read changes nothing else (R75). -/
def State.noteAccess (s : State) (a : Word) : State :=
  match accessDiag a with
  | none => s
  | some e => s.logDiag e

/-- The value `read8(a)` answers (R61). -/
def State.peek (s : State) (a : Word) : Byte := s.readTarget (target a)

/-- `read8(a)`: the value, and the state after the access (R60, R61). -/
def State.read8 (s : State) (a : Word) : Byte × State := (s.peek a, s.noteAccess a)

/-- `write8(a, v)` (R60, R61). -/
def State.write8 (s : State) (a : Word) (v : Byte) : State := (s.noteAccess a).writeTarget (target a) v

/-- `MemRead(a, 2)`: the low byte at a, then the high byte at a + 1 (R10, R73). -/
def State.read16 (s : State) (a : Word) : Word × State :=
  let lo := s.read8 a
  let hi := lo.2.read8 (a + 1)
  (mkWord hi.1 lo.1, hi.2)

/-- `MemWrite(a, 2, v)`: the low byte at a, then the high byte at a + 1 (R10, R73). -/
def State.write16 (s : State) (a v : Word) : State := (s.write8 a (loByte v)).write8 (a + 1) (hiByte v)

/-! ## OAM DMA -/

/-- The duration of a DMA in cycles (R6, R71). -/
def dmaCycles : Nat := 640

/-- One byte of `dma_copy()`: byte i of the source page goes to `OAM[i]` through read8 and write8 (R72). -/
def State.dmaByte (s : State) (i : Nat) : State :=
  let r := s.read8 (mkWord s.dma.source (BitVec.ofNat 8 i))
  r.2.write8 (0xFE00 + BitVec.ofNat 16 i) r.1

/-- `dma_copy()`: 160 bytes in increasing order (R72). -/
def State.dmaCopy (s : State) : State := (List.range 160).foldl State.dmaByte s

/-- `dma_update(c)` (R71). -/
def State.dmaUpdate (s : State) (c : Nat) : State :=
  if s.dma.pending then
    let n := s.dma.counter + c
    if dmaCycles ≤ n then
      let t := s.dmaCopy
      { t with dma := { t.dma with pending := false, counter := 0 } }
    else
      { s with dma := { s.dma with counter := n } }
  else s

/-- `bus.update(c)`: PPU, timer, serial, then DMA (R141). -/
def State.deviceUpdate (s : State) (c : Nat) : State :=
  (((s.ppuUpdate c).timerUpdate c).serialUpdate c).dmaUpdate c

end Sys2Proof.Machine
end

