-- ==== Sys2Proof/Machine/Ops.lean ====
section
/-! DEFINITION. The named operations over registers, the instruction stream and the stack; taking an interrupt and the
return from one; the other waiting steps (00_scope.md R9..R12, 40_step_engine.md R145, 60_exceptions.md R410..R413). -/

namespace Sys2Proof.Machine

/-- What a meaning or a step answers. -/
abbrev Result := Host.Outcome State Fault Refusal

/-! ## Registers -/

/-- `x[i]`, i ≠ 6 (R116). -/
def State.getReg (s : State) : Reg8 → Byte
  | .b => s.cpu.b
  | .c => s.cpu.c
  | .d => s.cpu.d
  | .e => s.cpu.e
  | .h => s.cpu.h
  | .l => s.cpu.l
  | .a => s.cpu.a

/-- `x[i] <- v`, i ≠ 6 (R116). -/
def State.setReg (s : State) (r : Reg8) (v : Byte) : State :=
  match r with
  | .b => { s with cpu := { s.cpu with b := v } }
  | .c => { s with cpu := { s.cpu with c := v } }
  | .d => { s with cpu := { s.cpu with d := v } }
  | .e => { s with cpu := { s.cpu with e := v } }
  | .h => { s with cpu := { s.cpu with h := v } }
  | .l => { s with cpu := { s.cpu with l := v } }
  | .a => { s with cpu := { s.cpu with a := v } }

/-- `F <- v & 0xF0` (R21). -/
def State.setF (s : State) (v : Byte) : State := { s with cpu := { s.cpu with f := v &&& 0xF0 } }

/-- `PC <- w`. -/
def State.setPc (s : State) (w : Word) : State := { s with cpu := { s.cpu with pc := w } }

/-- `SP <- w`. -/
def State.setSp (s : State) (w : Word) : State := { s with cpu := { s.cpu with sp := w } }

/-- `IME <- v`, at once (R405). -/
def State.setIme (s : State) (v : Bool) : State := { s with cpu := { s.cpu with ime := v } }

/-- `halted <- v` (R27). -/
def State.setHalted (s : State) (v : Bool) : State := { s with cpu := { s.cpu with halted := v } }

/-- `stopped <- v` (R27). -/
def State.setStopped (s : State) (v : Bool) : State := { s with cpu := { s.cpu with stopped := v } }

/-- `ime_enable_delay <- n`, over any count in progress (R406). -/
def State.scheduleEnable (s : State) (n : Nat) : State := { s with cpu := { s.cpu with imeEnableDelay := some n } }

/-- `ime_disable_delay <- n`, over any count in progress (R406). -/
def State.scheduleDisable (s : State) (n : Nat) : State := { s with cpu := { s.cpu with imeDisableDelay := some n } }

/-- `cycles <- n` (R12). -/
def State.setCycles (s : State) (n : Nat) : State := { s with cycles := n }

/-- `HL = H:L` (R22). -/
def State.hl (s : State) : Word := mkWord s.cpu.h s.cpu.l

/-- `BC = B:C` (R22). -/
def State.bc (s : State) : Word := mkWord s.cpu.b s.cpu.c

/-- `DE = D:E` (R22). -/
def State.de (s : State) : Word := mkWord s.cpu.d s.cpu.e

/-- `AF = A:F` (R22). -/
def State.af (s : State) : Word := mkWord s.cpu.a s.cpu.f

/-- `HL <- w` (R22). -/
def State.setHl (s : State) (w : Word) : State := { s with cpu := { s.cpu with h := hiByte w, l := loByte w } }

/-- `BC <- w` (R22). -/
def State.setBc (s : State) (w : Word) : State := { s with cpu := { s.cpu with b := hiByte w, c := loByte w } }

/-- `DE <- w` (R22). -/
def State.setDe (s : State) (w : Word) : State := { s with cpu := { s.cpu with d := hiByte w, e := loByte w } }

/-- `AF <- w`: the low nibble of F is cleared (R22). -/
def State.setAf (s : State) (w : Word) : State :=
  { s with cpu := { s.cpu with a := hiByte w, f := loByte w &&& 0xF0 } }

/-- `rp[p]` (R117). -/
def State.getPair (s : State) : Pair → Word
  | .bc => s.bc
  | .de => s.de
  | .hl => s.hl
  | .sp => s.cpu.sp

/-- `rp[p] <- w` (R117). -/
def State.setPair (s : State) (p : Pair) (w : Word) : State :=
  match p with
  | .bc => s.setBc w
  | .de => s.setDe w
  | .hl => s.setHl w
  | .sp => s.setSp w

/-- `rp2[p]` (R117). -/
def State.getStackPair (s : State) : StackPair → Word
  | .bc => s.bc
  | .de => s.de
  | .hl => s.hl
  | .af => s.af

/-- `rp2[p] <- w` (R117). -/
def State.setStackPair (s : State) (p : StackPair) (w : Word) : State :=
  match p with
  | .bc => s.setBc w
  | .de => s.setDe w
  | .hl => s.setHl w
  | .af => s.setAf w

/-! ## The instruction stream -/

/-- `fetch8()`: the byte at PC, and the state with PC past it (R11). -/
def State.fetch8 (s : State) : Byte × State := (s.peek s.cpu.pc, (s.noteAccess s.cpu.pc).setPc (s.cpu.pc + 1))

/-- `fetch16()`: the low byte first (R11). -/
def State.fetch16 (s : State) : Word × State :=
  let lo := s.fetch8
  let hi := lo.2.fetch8
  (mkWord hi.1 lo.1, hi.2)

/-- Fetches one whole instruction: the opcode byte, then the bytes its row needs, each through `fetch8` (R144). The
meanings run with PC past the instruction and its immediates in hand; no instruction writes before it has fetched
them (R513). -/
def State.fetchInstr (s : State) : Instr × State :=
  let op := s.fetch8
  match baseRow op.1 with
  | .plain i => (i, op.2)
  | .imm8 f => let v := op.2.fetch8; (f v.1, v.2)
  | .imm16 f => let w := op.2.fetch16; (f w.1, w.2)
  | .escape => let cb := op.2.fetch8; (cbRow cb.1, cb.2)

/-! ## The stack -/

/-- `push16(v)`: SP - 2, the low byte at SP, the high byte at SP + 1 (R11). -/
def State.push16 (s : State) (v : Word) : State := (s.setSp (s.cpu.sp - 2)).write16 (s.cpu.sp - 2) v

/-- `pop16()` (R11). -/
def State.pop16 (s : State) : Word × State :=
  let r := s.read16 s.cpu.sp
  (r.1, r.2.setSp (s.cpu.sp + 2))

/-! ## Ending a meaning -/

/-- A meaning that completes: the state it leaves and the step's cost (R144, R146). -/
def finish (cycles : Nat) (s : State) : Result := .next (s.setCycles cycles)

/-! ## Interrupts -/

/-- `service(i)`, taking an interrupt (R410): IF[i] and IME cleared, PC pushed, PC at the handler, 16 cycles or 20 from
HALT, halted cleared. -/
def State.service (s : State) (i : IrqSource) : State :=
  ((((((s.clearIrq i).setIme false).push16 s.cpu.pc).setPc i.handler).setCycles (if s.cpu.halted then 20 else 16))).setHalted
    false

/-- The return from an interrupt: `PC <- pop16(); IME <- 1` at once (R330, R416). -/
def State.returnFromInterrupt (s : State) : State :=
  let r := s.pop16
  (r.2.setPc r.1).setIme true

/-- `halt_wake()` (R411). -/
def State.haltWake (s : State) : State :=
  ((s.setHalted false).setPc (s.cpu.pc + s.params.haltWakePcDelta)).setCycles 4

/-- Halted idle (R412). -/
def State.haltedIdle (s : State) : State := s.setCycles 4

/-- `stopped_step()` (R413). -/
def State.stoppedStep (s : State) : State :=
  (if s.nextTriggered.isSome then s.setStopped false else s).setCycles 4

/-! ## The step -/

/-- Applies a function to the state of a result that goes on. -/
def mapNext (f : State → State) : Result → Result
  | .next s => .next (f s)
  | .fault r => .fault r
  | .refused r => .refused r

/-- `execute_instruction()` (R144), with the dispatch over instructions as an argument. -/
def State.executeInstruction (s : State) (run : Instr → State → Result) : Result := run s.fetchInstr.1 s.fetchInstr.2

/-- The branch of `step()` that runs (R140). -/
def State.stepBranch (s : State) (run : Instr → State → Result) : Result :=
  if s.cpu.stopped then .next s.stoppedStep
  else
    match s.nextTriggered with
    | some i =>
      if s.cpu.ime then .next (s.service i)
      else if s.cpu.halted then .next s.haltWake
      else s.executeInstruction run
    | none => if s.cpu.halted then .next s.haltedIdle else s.executeInstruction run

/-- `step()` of the CPU: one branch, then the IME tick (R140, R407). -/
def State.cpuStep (s : State) (run : Instr → State → Result) : Result := mapNext State.tickIme (s.stepBranch run)

/-- One system step: the CPU's step, then the devices by its cycles (R141). -/
def State.systemStep (s : State) (run : Instr → State → Result) : Result :=
  mapNext (fun t => t.deviceUpdate t.cycles) (s.cpuStep run)

/-! ## Placing an instruction where the next step fetches it -/

/-- Stores a byte where a fetch from address a reads it, past the write rules of the bus: a cell of byte storage, or a
byte of the ROM image. None where the address is neither. -/
def State.placeByte (s : State) (a : Word) (v : Byte) : Option State :=
  match s.cellOf a, target a with
  | some k, _ => some (s.writeCell k v)
  | none, .rom n =>
    let i := s.cart.romOffset n
    if i < s.cart.romLen then some { s with cart := { s.cart with rom := Memory.write s.cart.rom i v } } else none
  | none, _ => none

/-- Stores bytes at consecutive addresses. -/
def State.placeBytes (s : State) (a : Word) : List Byte → Option State
  | [] => some s
  | v :: rest =>
    match s.placeByte a v with
    | none => none
    | some t => t.placeBytes (a + 1) rest

/-- The state in which the next step executes an instruction: not stopped, not halted, and IME off if an interrupt is
pending. -/
def State.readyToFetch (s : State) : State :=
  let t := (s.setStopped false).setHalted false
  if t.nextTriggered.isSome then t.setIme false else t

/-- Places an instruction's bytes at PC; where PC is not in ROM or byte storage, PC is first set to WRAM's start. -/
def State.placeInstr (s : State) (bytes : List Byte) : State :=
  let t := s.readyToFetch
  match t.placeBytes t.cpu.pc bytes with
  | some u => u
  | none => ((t.setPc 0xC000).placeBytes 0xC000 bytes).getD t

end Sys2Proof.Machine
end

