-- ==== Sys2Proof/Machine/Operands.lean ====
section
/-! DEFINITION. Operand forms: the source of an 8-bit ALU operation, the addresses of the accumulator loads, and the
condition codes (30_encoding.md R116..R121, 46_control.md R320). -/

namespace Sys2Proof.Machine

/-- `cond(cc)` (R118, R320). -/
def State.cond (s : State) : Cond → Bool
  | .nz => !s.cpu.f.getLsbD 7
  | .z => s.cpu.f.getLsbD 7
  | .nc => !s.cpu.f.getLsbD 4
  | .c => s.cpu.f.getLsbD 4

/-- The source operand of an 8-bit ALU operation: `x[z]`, the byte at HL, or d8 (R119). -/
inductive Source where
  | reg (r : Reg8)
  | memHL
  | imm (v : Byte)
  deriving DecidableEq, Repr

/-- Reads a source operand; a memory operand is one `MemRead` of HL (R145). -/
def State.readSource (s : State) : Source → Byte × State
  | .reg r => (s.getReg r, s)
  | .memHL => s.read8 s.hl
  | .imm v => (v, s)

/-- The destination of a read-modify-write operation: a register, or the byte at HL (R145). -/
inductive Place where
  | reg (r : Reg8)
  | memHL
  deriving DecidableEq, Repr

/-- `read_r8(i)` (R145). -/
def State.readPlace (s : State) : Place → Byte × State
  | .reg r => (s.getReg r, s)
  | .memHL => s.read8 s.hl

/-- `write_r8(i, v)` (R145). -/
def State.writePlace (s : State) (p : Place) (v : Byte) : State :=
  match p with
  | .reg r => s.setReg r v
  | .memHL => s.write8 s.hl v

/-- How the `(HL+)` and `(HL-)` forms change HL (R169..R172). -/
inductive HlStep where
  | up | down
  deriving DecidableEq, Repr

/-- `trunc16(a + 1)` or `trunc16(a - 1)`. -/
def HlStep.apply (d : HlStep) (a : Word) : Word :=
  match d with
  | .up => a + 1
  | .down => a - 1

end Sys2Proof.Machine
end

