-- ==== Sys2Proof/Machine/Flags.lean ====
section
/-! DEFINITION. The flags byte and every flag computation: the ALU functions (42_alu8.md R200..R202, R227, R229,
R231..R234), 16-bit arithmetic (43_alu16.md R250, R253), the shift table (44_rotate_shift.md R274) and BIT (R300). They
are pure functions of the operands and the old flags. -/

namespace Sys2Proof.Machine

/-- The four flags (R21). -/
structure Flags where
  z : Bool
  n : Bool
  h : Bool
  c : Bool
  deriving DecidableEq, Repr

/-- The flags of a byte: Z, N, H, C in bits 7, 6, 5, 4 (R21). -/
def Flags.ofByte (v : Byte) : Flags :=
  { z := v.getLsbD 7, n := v.getLsbD 6, h := v.getLsbD 5, c := v.getLsbD 4 }

/-- The byte of four flags, bits 3..0 zero (R21). -/
def Flags.toByte (f : Flags) : Byte :=
  BitVec.ofNat 8 (0x80 * bitVal f.z + 0x40 * bitVal f.n + 0x20 * bitVal f.h + 0x10 * bitVal f.c)

/-- The flags in F. -/
def State.flags (s : State) : Flags := Flags.ofByte s.cpu.f

/-- Writes F from four flags (R21). -/
def State.setFlags (s : State) (f : Flags) : State := s.setF f.toByte

/-- `add8(a, b, cin)` (R200). -/
def add8 (a b : Byte) (cin : Bool) : Byte × Flags :=
  let sum := a.toNat + b.toNat + bitVal cin
  let r : Byte := BitVec.ofNat 8 sum
  (r, { z := r == 0, n := false, h := 0xF < lowNibble a + lowNibble b + bitVal cin, c := 0xFF < sum })

/-- `sub8(a, b, cin)` (R201). -/
def sub8 (a b : Byte) (cin : Bool) : Byte × Flags :=
  let d : Int := a.toNat - b.toNat - bitVal cin
  let r : Byte := BitVec.ofInt 8 d
  (r, { z := r == 0, n := true, h := (lowNibble a : Int) - lowNibble b - bitVal cin < 0, c := d < 0 })

/-- `and8(a, b)` (R202). -/
def and8 (a b : Byte) : Byte × Flags := (a &&& b, { z := a &&& b == 0, n := false, h := true, c := false })

/-- `xor8(a, b)` (R202). -/
def xor8 (a b : Byte) : Byte × Flags := (a ^^^ b, { z := a ^^^ b == 0, n := false, h := false, c := false })

/-- `or8(a, b)` (R202). -/
def or8 (a b : Byte) : Byte × Flags := (a ||| b, { z := a ||| b == 0, n := false, h := false, c := false })

/-- What an ALU operation leaves in A, and the flags (R203..R226). CP discards the difference, so A is as before. -/
def alu (op : AluOp) (a v : Byte) (cin : Bool) : Byte × Flags :=
  match op with
  | .add => add8 a v false
  | .adc => add8 a v cin
  | .sub => sub8 a v false
  | .sbc => sub8 a v cin
  | .and => and8 a v
  | .xor => xor8 a v
  | .or => or8 a v
  | .cp => (a, (sub8 a v false).2)

/-- INC of an 8-bit operand; C is kept (R227). -/
def inc8 (v : Byte) (f : Flags) : Byte × Flags :=
  (v + 1, { z := v + 1 == 0, n := false, h := lowNibble v == 0xF, c := f.c })

/-- DEC of an 8-bit operand; C is kept (R229). -/
def dec8 (v : Byte) (f : Flags) : Byte × Flags :=
  (v - 1, { z := v - 1 == 0, n := true, h := lowNibble v == 0, c := f.c })

/-- DAA after an addition (R231, F.N = 0). -/
def daaAdd (a : Byte) (f : Flags) : Byte × Bool :=
  let fix : Bool := f.c || decide (0x99 < a.toNat)
  let a1 : Byte := if fix then a + 0x60 else a
  let a2 : Byte := if f.h || decide (9 < lowNibble a1) then a1 + 0x06 else a1
  (a2, fix)

/-- DAA after a subtraction (R231, F.N = 1). -/
def daaSub (a : Byte) (f : Flags) : Byte × Bool :=
  let a1 : Byte := if f.c then a - 0x60 else a
  let a2 : Byte := if f.h then a1 - 0x06 else a1
  (a2, f.c)

/-- DAA (R231): the adjusted A and the flags; N is kept, H cleared. -/
def daa8 (a : Byte) (f : Flags) : Byte × Flags :=
  let r := if f.n then daaSub a f else daaAdd a f
  (r.1, { z := r.1 == 0, n := f.n, h := false, c := r.2 })

/-- `ADD HL,rr` (R253): Z is kept. -/
def add16 (a b : Word) (f : Flags) : Word × Flags :=
  let sum := a.toNat + b.toNat
  (BitVec.ofNat 16 sum,
    { z := f.z, n := false, h := 0x0FFF < a.toNat % 0x1000 + b.toNat % 0x1000, c := 0xFFFF < sum })

/-- `sp_plus_e8(e8)` (R250): the flags come from the unsigned sum of the low bytes. -/
def spPlusE8 (sp : Word) (e8 : Byte) : Word × Flags :=
  (sp + sext8 e8,
    { z := false, n := false, h := 0x0F < sp.toNat % 16 + lowNibble e8, c := 0xFF < sp.toNat % 256 + e8.toNat })

/-- `shift(o, v)`: the result and the new carry, from the carry before the instruction (R274). -/
def shift (o : ShiftOp) (v : Byte) (cin : Bool) : Byte × Bool :=
  let carryIn : Byte := BitVec.ofNat 8 (bitVal cin)
  match o with
  | .rlc => ((v <<< 1) ||| (v >>> 7), v.getLsbD 7)
  | .rrc => ((v >>> 1) ||| (v <<< 7), v.getLsbD 0)
  | .rl => ((v <<< 1) ||| carryIn, v.getLsbD 7)
  | .rr => ((v >>> 1) ||| (carryIn <<< 7), v.getLsbD 0)
  | .sla => (v <<< 1, v.getLsbD 7)
  | .sra => ((v >>> 1) ||| (v &&& 0x80), v.getLsbD 0)
  | .swap => ((v <<< 4) ||| (v >>> 4), false)
  | .srl => (v >>> 1, v.getLsbD 0)

/-- The flags every CB rotate and shift writes (R274). -/
def shiftFlags (r : Byte × Bool) : Flags := { z := r.1 == 0, n := false, h := false, c := r.2 }

/-- The flags RLCA, RRCA, RLA and RRA write: Z is cleared whatever the result (R270..R273). -/
def rotateAFlags (c : Bool) : Flags := { z := false, n := false, h := false, c := c }

/-- The flags BIT writes: C is kept (R300). -/
def bitFlags (v : Byte) (n : Fin 8) (f : Flags) : Flags := { z := !v.getLsbD n.val, n := false, h := true, c := f.c }

/-- `1 << b` (R302, R304). -/
def bitMask (n : Fin 8) : Byte := BitVec.ofNat 8 (2 ^ n.val)

end Sys2Proof.Machine
end

