-- ==== Sys2Proof/Machine/Alu16.lean ====
section
/-! DEFINITION. 16-bit arithmetic (43_alu16.md R250..R255): the shared operations, then the meaning of each instruction, in the
table's order. A meaning runs with PC past the instruction (R13) and ends with `finish`, which sets the step's cost. -/

namespace Sys2Proof.Machine

/-- `rp[p] <- trunc16(rp[p] + 1)` (R251). -/
def incPair (p : Pair) (s : State) : State := s.setPair p (s.getPair p + 1)

/-- `rp[p] <- trunc16(rp[p] - 1)` (R252). -/
def decPair (p : Pair) (s : State) : State := s.setPair p (s.getPair p - 1)

/-- `ADD HL,rr` (R253). -/
def addHlPair (p : Pair) (s : State) : State :=
  let r := add16 s.hl (s.getPair p) s.flags
  (s.setHl r.1).setFlags r.2

/-- `SP <- sp_plus_e8(e)` (R254). -/
def addSp (e : Byte) (s : State) : State :=
  let r := spPlusE8 s.cpu.sp e
  (s.setSp r.1).setFlags r.2

/-- `HL <- sp_plus_e8(e)` (R255). -/
def loadHlSp (e : Byte) (s : State) : State :=
  let r := spPlusE8 s.cpu.sp e
  (s.setHl r.1).setFlags r.2

/-! ## The meanings -/

/-- `INC BC`, opcode 03 (R251). -/
def execIncBC (s : State) : Result := finish 8 (incPair .bc s)

/-- `ADD HL,BC`, opcode 09 (R253). -/
def execAddHL_BC (s : State) : Result := finish 8 (addHlPair .bc s)

/-- `DEC BC`, opcode 0B (R252). -/
def execDecBC (s : State) : Result := finish 8 (decPair .bc s)

/-- `INC DE`, opcode 13 (R251). -/
def execIncDE (s : State) : Result := finish 8 (incPair .de s)

/-- `ADD HL,DE`, opcode 19 (R253). -/
def execAddHL_DE (s : State) : Result := finish 8 (addHlPair .de s)

/-- `DEC DE`, opcode 1B (R252). -/
def execDecDE (s : State) : Result := finish 8 (decPair .de s)

/-- `INC HL`, opcode 23 (R251). -/
def execIncHL (s : State) : Result := finish 8 (incPair .hl s)

/-- `ADD HL,HL`, opcode 29 (R253). -/
def execAddHL_HL (s : State) : Result := finish 8 (addHlPair .hl s)

/-- `DEC HL`, opcode 2B (R252). -/
def execDecHL (s : State) : Result := finish 8 (decPair .hl s)

/-- `INC SP`, opcode 33 (R251). -/
def execIncSP (s : State) : Result := finish 8 (incPair .sp s)

/-- `ADD HL,SP`, opcode 39 (R253). -/
def execAddHL_SP (s : State) : Result := finish 8 (addHlPair .sp s)

/-- `DEC SP`, opcode 3B (R252). -/
def execDecSP (s : State) : Result := finish 8 (decPair .sp s)

/-- `ADD SP,e8`, opcode E8 (R254). -/
def execAddSP_e8 (e8 : Byte) (s : State) : Result := finish 16 (addSp e8 s)

/-- `LD HL,SP+e8`, opcode F8 (R255). -/
def execLdHL_SPe8 (e8 : Byte) (s : State) : Result := finish 12 (loadHlSp e8 s)

end Sys2Proof.Machine
end

