-- ==== Sys2Proof/Machine/Alu8.lean ====
section
/-! DEFINITION. 8-bit arithmetic and logic (42_alu8.md R200..R235): the shared operations, then the meaning of each instruction, in the
table's order. A meaning runs with PC past the instruction (R13) and ends with `finish`, which sets the step's cost. -/

namespace Sys2Proof.Machine

/-- `A <- op(A, operand)` and all four flags (R203..R226); CP leaves A. -/
def aluFrom (op : AluOp) (src : Source) (s : State) : State :=
  let v := s.readSource src
  let r := alu op s.cpu.a v.1 s.flags.c
  (v.2.setReg .a r.1).setFlags r.2

/-- INC of a register or of the byte at HL (R227, R228). -/
def incPlace (p : Place) (s : State) : State :=
  let v := s.readPlace p
  let r := inc8 v.1 s.flags
  (v.2.writePlace p r.1).setFlags r.2

/-- DEC of a register or of the byte at HL (R229, R230). -/
def decPlace (p : Place) (s : State) : State :=
  let v := s.readPlace p
  let r := dec8 v.1 s.flags
  (v.2.writePlace p r.1).setFlags r.2

/-- DAA (R231). -/
def decimalAdjust (s : State) : State :=
  let r := daa8 s.cpu.a s.flags
  (s.setReg .a r.1).setFlags r.2

/-- CPL (R232). -/
def complementA (s : State) : State :=
  (s.setReg .a (s.cpu.a ^^^ 0xFF)).setFlags { s.flags with n := true, h := true }

/-- SCF (R233). -/
def setCarry (s : State) : State := s.setFlags { s.flags with n := false, h := false, c := true }

/-- CCF (R234). -/
def complementCarry (s : State) : State := s.setFlags { s.flags with n := false, h := false, c := !s.flags.c }

/-! ## The meanings -/

/-- `INC B`, opcode 04 (R227). -/
def execIncB (s : State) : Result := finish 4 (incPlace (.reg .b) s)

/-- `DEC B`, opcode 05 (R229). -/
def execDecB (s : State) : Result := finish 4 (decPlace (.reg .b) s)

/-- `INC C`, opcode 0C (R227). -/
def execIncC (s : State) : Result := finish 4 (incPlace (.reg .c) s)

/-- `DEC C`, opcode 0D (R229). -/
def execDecC (s : State) : Result := finish 4 (decPlace (.reg .c) s)

/-- `INC D`, opcode 14 (R227). -/
def execIncD (s : State) : Result := finish 4 (incPlace (.reg .d) s)

/-- `DEC D`, opcode 15 (R229). -/
def execDecD (s : State) : Result := finish 4 (decPlace (.reg .d) s)

/-- `INC E`, opcode 1C (R227). -/
def execIncE (s : State) : Result := finish 4 (incPlace (.reg .e) s)

/-- `DEC E`, opcode 1D (R229). -/
def execDecE (s : State) : Result := finish 4 (decPlace (.reg .e) s)

/-- `INC H`, opcode 24 (R227). -/
def execIncH (s : State) : Result := finish 4 (incPlace (.reg .h) s)

/-- `DEC H`, opcode 25 (R229). -/
def execDecH (s : State) : Result := finish 4 (decPlace (.reg .h) s)

/-- `DAA`, opcode 27 (R231). -/
def execDaa (s : State) : Result := finish 4 (decimalAdjust s)

/-- `INC L`, opcode 2C (R227). -/
def execIncL (s : State) : Result := finish 4 (incPlace (.reg .l) s)

/-- `DEC L`, opcode 2D (R229). -/
def execDecL (s : State) : Result := finish 4 (decPlace (.reg .l) s)

/-- `CPL`, opcode 2F (R232). -/
def execCpl (s : State) : Result := finish 4 (complementA s)

/-- `INC (HL)`, opcode 34 (R228). -/
def execIncMemHL (s : State) : Result := finish 12 (incPlace .memHL s)

/-- `DEC (HL)`, opcode 35 (R230). -/
def execDecMemHL (s : State) : Result := finish 12 (decPlace .memHL s)

/-- `SCF`, opcode 37 (R233). -/
def execScf (s : State) : Result := finish 4 (setCarry s)

/-- `INC A`, opcode 3C (R227). -/
def execIncA (s : State) : Result := finish 4 (incPlace (.reg .a) s)

/-- `DEC A`, opcode 3D (R229). -/
def execDecA (s : State) : Result := finish 4 (decPlace (.reg .a) s)

/-- `CCF`, opcode 3F (R234). -/
def execCcf (s : State) : Result := finish 4 (complementCarry s)

/-- `ADD A,B`, opcode 80 (R203). -/
def execAddA_B (s : State) : Result := finish 4 (aluFrom .add (.reg .b) s)

/-- `ADD A,C`, opcode 81 (R203). -/
def execAddA_C (s : State) : Result := finish 4 (aluFrom .add (.reg .c) s)

/-- `ADD A,D`, opcode 82 (R203). -/
def execAddA_D (s : State) : Result := finish 4 (aluFrom .add (.reg .d) s)

/-- `ADD A,E`, opcode 83 (R203). -/
def execAddA_E (s : State) : Result := finish 4 (aluFrom .add (.reg .e) s)

/-- `ADD A,H`, opcode 84 (R203). -/
def execAddA_H (s : State) : Result := finish 4 (aluFrom .add (.reg .h) s)

/-- `ADD A,L`, opcode 85 (R203). -/
def execAddA_L (s : State) : Result := finish 4 (aluFrom .add (.reg .l) s)

/-- `ADD A,(HL)`, opcode 86 (R204). -/
def execAddA_MemHL (s : State) : Result := finish 8 (aluFrom .add .memHL s)

/-- `ADD A,A`, opcode 87 (R203). -/
def execAddA_A (s : State) : Result := finish 4 (aluFrom .add (.reg .a) s)

/-- `ADC A,B`, opcode 88 (R206). -/
def execAdcA_B (s : State) : Result := finish 4 (aluFrom .adc (.reg .b) s)

/-- `ADC A,C`, opcode 89 (R206). -/
def execAdcA_C (s : State) : Result := finish 4 (aluFrom .adc (.reg .c) s)

/-- `ADC A,D`, opcode 8A (R206). -/
def execAdcA_D (s : State) : Result := finish 4 (aluFrom .adc (.reg .d) s)

/-- `ADC A,E`, opcode 8B (R206). -/
def execAdcA_E (s : State) : Result := finish 4 (aluFrom .adc (.reg .e) s)

/-- `ADC A,H`, opcode 8C (R206). -/
def execAdcA_H (s : State) : Result := finish 4 (aluFrom .adc (.reg .h) s)

/-- `ADC A,L`, opcode 8D (R206). -/
def execAdcA_L (s : State) : Result := finish 4 (aluFrom .adc (.reg .l) s)

/-- `ADC A,(HL)`, opcode 8E (R207). -/
def execAdcA_MemHL (s : State) : Result := finish 8 (aluFrom .adc .memHL s)

/-- `ADC A,A`, opcode 8F (R206). -/
def execAdcA_A (s : State) : Result := finish 4 (aluFrom .adc (.reg .a) s)

/-- `SUB B`, opcode 90 (R209). -/
def execSubB (s : State) : Result := finish 4 (aluFrom .sub (.reg .b) s)

/-- `SUB C`, opcode 91 (R209). -/
def execSubC (s : State) : Result := finish 4 (aluFrom .sub (.reg .c) s)

/-- `SUB D`, opcode 92 (R209). -/
def execSubD (s : State) : Result := finish 4 (aluFrom .sub (.reg .d) s)

/-- `SUB E`, opcode 93 (R209). -/
def execSubE (s : State) : Result := finish 4 (aluFrom .sub (.reg .e) s)

/-- `SUB H`, opcode 94 (R209). -/
def execSubH (s : State) : Result := finish 4 (aluFrom .sub (.reg .h) s)

/-- `SUB L`, opcode 95 (R209). -/
def execSubL (s : State) : Result := finish 4 (aluFrom .sub (.reg .l) s)

/-- `SUB (HL)`, opcode 96 (R210). -/
def execSubMemHL (s : State) : Result := finish 8 (aluFrom .sub .memHL s)

/-- `SUB A`, opcode 97 (R209). -/
def execSubA (s : State) : Result := finish 4 (aluFrom .sub (.reg .a) s)

/-- `SBC A,B`, opcode 98 (R212). -/
def execSbcA_B (s : State) : Result := finish 4 (aluFrom .sbc (.reg .b) s)

/-- `SBC A,C`, opcode 99 (R212). -/
def execSbcA_C (s : State) : Result := finish 4 (aluFrom .sbc (.reg .c) s)

/-- `SBC A,D`, opcode 9A (R212). -/
def execSbcA_D (s : State) : Result := finish 4 (aluFrom .sbc (.reg .d) s)

/-- `SBC A,E`, opcode 9B (R212). -/
def execSbcA_E (s : State) : Result := finish 4 (aluFrom .sbc (.reg .e) s)

/-- `SBC A,H`, opcode 9C (R212). -/
def execSbcA_H (s : State) : Result := finish 4 (aluFrom .sbc (.reg .h) s)

/-- `SBC A,L`, opcode 9D (R212). -/
def execSbcA_L (s : State) : Result := finish 4 (aluFrom .sbc (.reg .l) s)

/-- `SBC A,(HL)`, opcode 9E (R213). -/
def execSbcA_MemHL (s : State) : Result := finish 8 (aluFrom .sbc .memHL s)

/-- `SBC A,A`, opcode 9F (R212). -/
def execSbcA_A (s : State) : Result := finish 4 (aluFrom .sbc (.reg .a) s)

/-- `AND B`, opcode A0 (R215). -/
def execAndB (s : State) : Result := finish 4 (aluFrom .and (.reg .b) s)

/-- `AND C`, opcode A1 (R215). -/
def execAndC (s : State) : Result := finish 4 (aluFrom .and (.reg .c) s)

/-- `AND D`, opcode A2 (R215). -/
def execAndD (s : State) : Result := finish 4 (aluFrom .and (.reg .d) s)

/-- `AND E`, opcode A3 (R215). -/
def execAndE (s : State) : Result := finish 4 (aluFrom .and (.reg .e) s)

/-- `AND H`, opcode A4 (R215). -/
def execAndH (s : State) : Result := finish 4 (aluFrom .and (.reg .h) s)

/-- `AND L`, opcode A5 (R215). -/
def execAndL (s : State) : Result := finish 4 (aluFrom .and (.reg .l) s)

/-- `AND (HL)`, opcode A6 (R216). -/
def execAndMemHL (s : State) : Result := finish 8 (aluFrom .and .memHL s)

/-- `AND A`, opcode A7 (R215). -/
def execAndA (s : State) : Result := finish 4 (aluFrom .and (.reg .a) s)

/-- `XOR B`, opcode A8 (R218). -/
def execXorB (s : State) : Result := finish 4 (aluFrom .xor (.reg .b) s)

/-- `XOR C`, opcode A9 (R218). -/
def execXorC (s : State) : Result := finish 4 (aluFrom .xor (.reg .c) s)

/-- `XOR D`, opcode AA (R218). -/
def execXorD (s : State) : Result := finish 4 (aluFrom .xor (.reg .d) s)

/-- `XOR E`, opcode AB (R218). -/
def execXorE (s : State) : Result := finish 4 (aluFrom .xor (.reg .e) s)

/-- `XOR H`, opcode AC (R218). -/
def execXorH (s : State) : Result := finish 4 (aluFrom .xor (.reg .h) s)

/-- `XOR L`, opcode AD (R218). -/
def execXorL (s : State) : Result := finish 4 (aluFrom .xor (.reg .l) s)

/-- `XOR (HL)`, opcode AE (R219). -/
def execXorMemHL (s : State) : Result := finish 8 (aluFrom .xor .memHL s)

/-- `XOR A`, opcode AF (R218). -/
def execXorA (s : State) : Result := finish 4 (aluFrom .xor (.reg .a) s)

/-- `OR B`, opcode B0 (R221). -/
def execOrB (s : State) : Result := finish 4 (aluFrom .or (.reg .b) s)

/-- `OR C`, opcode B1 (R221). -/
def execOrC (s : State) : Result := finish 4 (aluFrom .or (.reg .c) s)

/-- `OR D`, opcode B2 (R221). -/
def execOrD (s : State) : Result := finish 4 (aluFrom .or (.reg .d) s)

/-- `OR E`, opcode B3 (R221). -/
def execOrE (s : State) : Result := finish 4 (aluFrom .or (.reg .e) s)

/-- `OR H`, opcode B4 (R221). -/
def execOrH (s : State) : Result := finish 4 (aluFrom .or (.reg .h) s)

/-- `OR L`, opcode B5 (R221). -/
def execOrL (s : State) : Result := finish 4 (aluFrom .or (.reg .l) s)

/-- `OR (HL)`, opcode B6 (R222). -/
def execOrMemHL (s : State) : Result := finish 8 (aluFrom .or .memHL s)

/-- `OR A`, opcode B7 (R221). -/
def execOrA (s : State) : Result := finish 4 (aluFrom .or (.reg .a) s)

/-- `CP B`, opcode B8 (R224). -/
def execCpB (s : State) : Result := finish 4 (aluFrom .cp (.reg .b) s)

/-- `CP C`, opcode B9 (R224). -/
def execCpC (s : State) : Result := finish 4 (aluFrom .cp (.reg .c) s)

/-- `CP D`, opcode BA (R224). -/
def execCpD (s : State) : Result := finish 4 (aluFrom .cp (.reg .d) s)

/-- `CP E`, opcode BB (R224). -/
def execCpE (s : State) : Result := finish 4 (aluFrom .cp (.reg .e) s)

/-- `CP H`, opcode BC (R224). -/
def execCpH (s : State) : Result := finish 4 (aluFrom .cp (.reg .h) s)

/-- `CP L`, opcode BD (R224). -/
def execCpL (s : State) : Result := finish 4 (aluFrom .cp (.reg .l) s)

/-- `CP (HL)`, opcode BE (R225). -/
def execCpMemHL (s : State) : Result := finish 8 (aluFrom .cp .memHL s)

/-- `CP A`, opcode BF (R224). -/
def execCpA (s : State) : Result := finish 4 (aluFrom .cp (.reg .a) s)

/-- `ADD A,d8`, opcode C6 (R205). -/
def execAddA_d8 (d8 : Byte) (s : State) : Result := finish 8 (aluFrom .add (.imm d8) s)

/-- `ADC A,d8`, opcode CE (R208). -/
def execAdcA_d8 (d8 : Byte) (s : State) : Result := finish 8 (aluFrom .adc (.imm d8) s)

/-- `SUB d8`, opcode D6 (R211). -/
def execSubD8 (d8 : Byte) (s : State) : Result := finish 8 (aluFrom .sub (.imm d8) s)

/-- `SBC A,d8`, opcode DE (R214). -/
def execSbcA_d8 (d8 : Byte) (s : State) : Result := finish 8 (aluFrom .sbc (.imm d8) s)

/-- `AND d8`, opcode E6 (R217). -/
def execAndD8 (d8 : Byte) (s : State) : Result := finish 8 (aluFrom .and (.imm d8) s)

/-- `XOR d8`, opcode EE (R220). -/
def execXorD8 (d8 : Byte) (s : State) : Result := finish 8 (aluFrom .xor (.imm d8) s)

/-- `OR d8`, opcode F6 (R223). -/
def execOrD8 (d8 : Byte) (s : State) : Result := finish 8 (aluFrom .or (.imm d8) s)

/-- `CP d8`, opcode FE (R226). -/
def execCpD8 (d8 : Byte) (s : State) : Result := finish 8 (aluFrom .cp (.imm d8) s)

end Sys2Proof.Machine
end

