-- ==== Sys2Proof/Machine/Control.lean ====
section
/-! DEFINITION. Jumps, calls, returns and restarts (46_control.md R320..R332): the shared operations, then the meaning of each instruction, in the
table's order. A meaning runs with PC past the instruction (R13) and ends with `finish`, which sets the step's cost. -/

namespace Sys2Proof.Machine

/-- The cost of a conditional transfer: taken or not taken (R144, R320). -/
def takenCost (cc : Cond) (taken notTaken : Nat) (s : State) : Nat := if s.cond cc then taken else notTaken

/-- `PC <- a` (R321, R323). -/
def jumpTo (a : Word) (s : State) : State := s.setPc a

/-- `if cond(cc): PC <- nn` (R322). -/
def jumpIf (cc : Cond) (a : Word) (s : State) : State := if s.cond cc then jumpTo a s else s

/-- `PC <- trunc16(PC + sext8(e))`; PC is past the instruction (R324). -/
def jumpRel (e : Byte) (s : State) : State := s.setPc (s.cpu.pc + sext8 e)

/-- `if cond(cc): PC <- trunc16(PC + sext8(e))` (R325). -/
def jumpRelIf (cc : Cond) (e : Byte) (s : State) : State := if s.cond cc then jumpRel e s else s

/-- `push16(PC); PC <- a` (R326, R331). -/
def callTo (a : Word) (s : State) : State := (s.push16 s.cpu.pc).setPc a

/-- `if cond(cc): push16(PC); PC <- nn` (R327). -/
def callIf (cc : Cond) (a : Word) (s : State) : State := if s.cond cc then callTo a s else s

/-- `PC <- pop16()` (R328). -/
def returnTo (s : State) : State :=
  let v := s.pop16
  v.2.setPc v.1

/-- `if cond(cc): PC <- pop16()` (R329). -/
def returnIf (cc : Cond) (s : State) : State := if s.cond cc then returnTo s else s

/-! ## The meanings -/

/-- `JR e8`, opcode 18 (R324). -/
def execJrE8 (e8 : Byte) (s : State) : Result := finish 12 (jumpRel e8 s)

/-- `JR NZ,e8`, opcode 20 (R325). -/
def execJrNZ_e8 (e8 : Byte) (s : State) : Result := finish (takenCost .nz 12 8 s) (jumpRelIf .nz e8 s)

/-- `JR Z,e8`, opcode 28 (R325). -/
def execJrZ_e8 (e8 : Byte) (s : State) : Result := finish (takenCost .z 12 8 s) (jumpRelIf .z e8 s)

/-- `JR NC,e8`, opcode 30 (R325). -/
def execJrNC_e8 (e8 : Byte) (s : State) : Result := finish (takenCost .nc 12 8 s) (jumpRelIf .nc e8 s)

/-- `JR C,e8`, opcode 38 (R325). -/
def execJrC_e8 (e8 : Byte) (s : State) : Result := finish (takenCost .c 12 8 s) (jumpRelIf .c e8 s)

/-- `RET NZ`, opcode C0 (R329). -/
def execRetNZ (s : State) : Result := finish (takenCost .nz 20 8 s) (returnIf .nz s)

/-- `JP NZ,a16`, opcode C2 (R322). -/
def execJpNZ_a16 (a16 : Word) (s : State) : Result := finish (takenCost .nz 16 12 s) (jumpIf .nz a16 s)

/-- `JP a16`, opcode C3 (R321). -/
def execJpA16 (a16 : Word) (s : State) : Result := finish 16 (jumpTo a16 s)

/-- `CALL NZ,a16`, opcode C4 (R327). -/
def execCallNZ_a16 (a16 : Word) (s : State) : Result := finish (takenCost .nz 24 12 s) (callIf .nz a16 s)

/-- `RST 00H`, opcode C7 (R331). -/
def execRst00H (s : State) : Result := finish 16 (callTo 0x00 s)

/-- `RET Z`, opcode C8 (R329). -/
def execRetZ (s : State) : Result := finish (takenCost .z 20 8 s) (returnIf .z s)

/-- `RET`, opcode C9 (R328). -/
def execRet (s : State) : Result := finish 16 (returnTo s)

/-- `JP Z,a16`, opcode CA (R322). -/
def execJpZ_a16 (a16 : Word) (s : State) : Result := finish (takenCost .z 16 12 s) (jumpIf .z a16 s)

/-- `CALL Z,a16`, opcode CC (R327). -/
def execCallZ_a16 (a16 : Word) (s : State) : Result := finish (takenCost .z 24 12 s) (callIf .z a16 s)

/-- `CALL a16`, opcode CD (R326). -/
def execCallA16 (a16 : Word) (s : State) : Result := finish 24 (callTo a16 s)

/-- `RST 08H`, opcode CF (R331). -/
def execRst08H (s : State) : Result := finish 16 (callTo 0x08 s)

/-- `RET NC`, opcode D0 (R329). -/
def execRetNC (s : State) : Result := finish (takenCost .nc 20 8 s) (returnIf .nc s)

/-- `JP NC,a16`, opcode D2 (R322). -/
def execJpNC_a16 (a16 : Word) (s : State) : Result := finish (takenCost .nc 16 12 s) (jumpIf .nc a16 s)

/-- `CALL NC,a16`, opcode D4 (R327). -/
def execCallNC_a16 (a16 : Word) (s : State) : Result := finish (takenCost .nc 24 12 s) (callIf .nc a16 s)

/-- `RST 10H`, opcode D7 (R331). -/
def execRst10H (s : State) : Result := finish 16 (callTo 0x10 s)

/-- `RET C`, opcode D8 (R329). -/
def execRetC (s : State) : Result := finish (takenCost .c 20 8 s) (returnIf .c s)

/-- `RETI`, opcode D9 (R330). -/
def execReti (s : State) : Result := finish 16 (State.returnFromInterrupt s)

/-- `JP C,a16`, opcode DA (R322). -/
def execJpC_a16 (a16 : Word) (s : State) : Result := finish (takenCost .c 16 12 s) (jumpIf .c a16 s)

/-- `CALL C,a16`, opcode DC (R327). -/
def execCallC_a16 (a16 : Word) (s : State) : Result := finish (takenCost .c 24 12 s) (callIf .c a16 s)

/-- `RST 18H`, opcode DF (R331). -/
def execRst18H (s : State) : Result := finish 16 (callTo 0x18 s)

/-- `RST 20H`, opcode E7 (R331). -/
def execRst20H (s : State) : Result := finish 16 (callTo 0x20 s)

/-- `JP HL`, opcode E9 (R323). -/
def execJpHL (s : State) : Result := finish 4 (jumpTo s.hl s)

/-- `RST 28H`, opcode EF (R331). -/
def execRst28H (s : State) : Result := finish 16 (callTo 0x28 s)

/-- `RST 30H`, opcode F7 (R331). -/
def execRst30H (s : State) : Result := finish 16 (callTo 0x30 s)

/-- `RST 38H`, opcode FF (R331). -/
def execRst38H (s : State) : Result := finish 16 (callTo 0x38 s)

end Sys2Proof.Machine
end

