-- ==== Sys2Proof/Machine/BitOps.lean ====
section
/-! DEFINITION. Single-bit test, reset and set (45_bit_ops.md R300..R305): the shared operations, then the meaning of each instruction, in the
table's order. A meaning runs with PC past the instruction (R13) and ends with `finish`, which sets the step's cost. -/

namespace Sys2Proof.Machine

/-- BIT: the operand is read and not written (R300, R301). -/
def testBit (n : Fin 8) (p : Place) (s : State) : State :=
  let v := s.readPlace p
  v.2.setFlags (bitFlags v.1 n s.flags)

/-- RES (R302, R303). -/
def resetBit (n : Fin 8) (p : Place) (s : State) : State :=
  let v := s.readPlace p
  v.2.writePlace p (v.1 &&& ~~~bitMask n)

/-- SET (R304, R305). -/
def setBit (n : Fin 8) (p : Place) (s : State) : State :=
  let v := s.readPlace p
  v.2.writePlace p (v.1 ||| bitMask n)

/-! ## The meanings -/

/-- `BIT 0,B`, opcode CB 40 (R300). -/
def execBit0_B (s : State) : Result := finish 8 (testBit 0 (.reg .b) s)

/-- `BIT 0,C`, opcode CB 41 (R300). -/
def execBit0_C (s : State) : Result := finish 8 (testBit 0 (.reg .c) s)

/-- `BIT 0,D`, opcode CB 42 (R300). -/
def execBit0_D (s : State) : Result := finish 8 (testBit 0 (.reg .d) s)

/-- `BIT 0,E`, opcode CB 43 (R300). -/
def execBit0_E (s : State) : Result := finish 8 (testBit 0 (.reg .e) s)

/-- `BIT 0,H`, opcode CB 44 (R300). -/
def execBit0_H (s : State) : Result := finish 8 (testBit 0 (.reg .h) s)

/-- `BIT 0,L`, opcode CB 45 (R300). -/
def execBit0_L (s : State) : Result := finish 8 (testBit 0 (.reg .l) s)

/-- `BIT 0,(HL)`, opcode CB 46 (R301). -/
def execBit0_MemHL (s : State) : Result := finish 12 (testBit 0 .memHL s)

/-- `BIT 0,A`, opcode CB 47 (R300). -/
def execBit0_A (s : State) : Result := finish 8 (testBit 0 (.reg .a) s)

/-- `BIT 1,B`, opcode CB 48 (R300). -/
def execBit1_B (s : State) : Result := finish 8 (testBit 1 (.reg .b) s)

/-- `BIT 1,C`, opcode CB 49 (R300). -/
def execBit1_C (s : State) : Result := finish 8 (testBit 1 (.reg .c) s)

/-- `BIT 1,D`, opcode CB 4A (R300). -/
def execBit1_D (s : State) : Result := finish 8 (testBit 1 (.reg .d) s)

/-- `BIT 1,E`, opcode CB 4B (R300). -/
def execBit1_E (s : State) : Result := finish 8 (testBit 1 (.reg .e) s)

/-- `BIT 1,H`, opcode CB 4C (R300). -/
def execBit1_H (s : State) : Result := finish 8 (testBit 1 (.reg .h) s)

/-- `BIT 1,L`, opcode CB 4D (R300). -/
def execBit1_L (s : State) : Result := finish 8 (testBit 1 (.reg .l) s)

/-- `BIT 1,(HL)`, opcode CB 4E (R301). -/
def execBit1_MemHL (s : State) : Result := finish 12 (testBit 1 .memHL s)

/-- `BIT 1,A`, opcode CB 4F (R300). -/
def execBit1_A (s : State) : Result := finish 8 (testBit 1 (.reg .a) s)

/-- `BIT 2,B`, opcode CB 50 (R300). -/
def execBit2_B (s : State) : Result := finish 8 (testBit 2 (.reg .b) s)

/-- `BIT 2,C`, opcode CB 51 (R300). -/
def execBit2_C (s : State) : Result := finish 8 (testBit 2 (.reg .c) s)

/-- `BIT 2,D`, opcode CB 52 (R300). -/
def execBit2_D (s : State) : Result := finish 8 (testBit 2 (.reg .d) s)

/-- `BIT 2,E`, opcode CB 53 (R300). -/
def execBit2_E (s : State) : Result := finish 8 (testBit 2 (.reg .e) s)

/-- `BIT 2,H`, opcode CB 54 (R300). -/
def execBit2_H (s : State) : Result := finish 8 (testBit 2 (.reg .h) s)

/-- `BIT 2,L`, opcode CB 55 (R300). -/
def execBit2_L (s : State) : Result := finish 8 (testBit 2 (.reg .l) s)

/-- `BIT 2,(HL)`, opcode CB 56 (R301). -/
def execBit2_MemHL (s : State) : Result := finish 12 (testBit 2 .memHL s)

/-- `BIT 2,A`, opcode CB 57 (R300). -/
def execBit2_A (s : State) : Result := finish 8 (testBit 2 (.reg .a) s)

/-- `BIT 3,B`, opcode CB 58 (R300). -/
def execBit3_B (s : State) : Result := finish 8 (testBit 3 (.reg .b) s)

/-- `BIT 3,C`, opcode CB 59 (R300). -/
def execBit3_C (s : State) : Result := finish 8 (testBit 3 (.reg .c) s)

/-- `BIT 3,D`, opcode CB 5A (R300). -/
def execBit3_D (s : State) : Result := finish 8 (testBit 3 (.reg .d) s)

/-- `BIT 3,E`, opcode CB 5B (R300). -/
def execBit3_E (s : State) : Result := finish 8 (testBit 3 (.reg .e) s)

/-- `BIT 3,H`, opcode CB 5C (R300). -/
def execBit3_H (s : State) : Result := finish 8 (testBit 3 (.reg .h) s)

/-- `BIT 3,L`, opcode CB 5D (R300). -/
def execBit3_L (s : State) : Result := finish 8 (testBit 3 (.reg .l) s)

/-- `BIT 3,(HL)`, opcode CB 5E (R301). -/
def execBit3_MemHL (s : State) : Result := finish 12 (testBit 3 .memHL s)

/-- `BIT 3,A`, opcode CB 5F (R300). -/
def execBit3_A (s : State) : Result := finish 8 (testBit 3 (.reg .a) s)

/-- `BIT 4,B`, opcode CB 60 (R300). -/
def execBit4_B (s : State) : Result := finish 8 (testBit 4 (.reg .b) s)

/-- `BIT 4,C`, opcode CB 61 (R300). -/
def execBit4_C (s : State) : Result := finish 8 (testBit 4 (.reg .c) s)

/-- `BIT 4,D`, opcode CB 62 (R300). -/
def execBit4_D (s : State) : Result := finish 8 (testBit 4 (.reg .d) s)

/-- `BIT 4,E`, opcode CB 63 (R300). -/
def execBit4_E (s : State) : Result := finish 8 (testBit 4 (.reg .e) s)

/-- `BIT 4,H`, opcode CB 64 (R300). -/
def execBit4_H (s : State) : Result := finish 8 (testBit 4 (.reg .h) s)

/-- `BIT 4,L`, opcode CB 65 (R300). -/
def execBit4_L (s : State) : Result := finish 8 (testBit 4 (.reg .l) s)

/-- `BIT 4,(HL)`, opcode CB 66 (R301). -/
def execBit4_MemHL (s : State) : Result := finish 12 (testBit 4 .memHL s)

/-- `BIT 4,A`, opcode CB 67 (R300). -/
def execBit4_A (s : State) : Result := finish 8 (testBit 4 (.reg .a) s)

/-- `BIT 5,B`, opcode CB 68 (R300). -/
def execBit5_B (s : State) : Result := finish 8 (testBit 5 (.reg .b) s)

/-- `BIT 5,C`, opcode CB 69 (R300). -/
def execBit5_C (s : State) : Result := finish 8 (testBit 5 (.reg .c) s)

/-- `BIT 5,D`, opcode CB 6A (R300). -/
def execBit5_D (s : State) : Result := finish 8 (testBit 5 (.reg .d) s)

/-- `BIT 5,E`, opcode CB 6B (R300). -/
def execBit5_E (s : State) : Result := finish 8 (testBit 5 (.reg .e) s)

/-- `BIT 5,H`, opcode CB 6C (R300). -/
def execBit5_H (s : State) : Result := finish 8 (testBit 5 (.reg .h) s)

/-- `BIT 5,L`, opcode CB 6D (R300). -/
def execBit5_L (s : State) : Result := finish 8 (testBit 5 (.reg .l) s)

/-- `BIT 5,(HL)`, opcode CB 6E (R301). -/
def execBit5_MemHL (s : State) : Result := finish 12 (testBit 5 .memHL s)

/-- `BIT 5,A`, opcode CB 6F (R300). -/
def execBit5_A (s : State) : Result := finish 8 (testBit 5 (.reg .a) s)

/-- `BIT 6,B`, opcode CB 70 (R300). -/
def execBit6_B (s : State) : Result := finish 8 (testBit 6 (.reg .b) s)

/-- `BIT 6,C`, opcode CB 71 (R300). -/
def execBit6_C (s : State) : Result := finish 8 (testBit 6 (.reg .c) s)

/-- `BIT 6,D`, opcode CB 72 (R300). -/
def execBit6_D (s : State) : Result := finish 8 (testBit 6 (.reg .d) s)

/-- `BIT 6,E`, opcode CB 73 (R300). -/
def execBit6_E (s : State) : Result := finish 8 (testBit 6 (.reg .e) s)

/-- `BIT 6,H`, opcode CB 74 (R300). -/
def execBit6_H (s : State) : Result := finish 8 (testBit 6 (.reg .h) s)

/-- `BIT 6,L`, opcode CB 75 (R300). -/
def execBit6_L (s : State) : Result := finish 8 (testBit 6 (.reg .l) s)

/-- `BIT 6,(HL)`, opcode CB 76 (R301). -/
def execBit6_MemHL (s : State) : Result := finish 12 (testBit 6 .memHL s)

/-- `BIT 6,A`, opcode CB 77 (R300). -/
def execBit6_A (s : State) : Result := finish 8 (testBit 6 (.reg .a) s)

/-- `BIT 7,B`, opcode CB 78 (R300). -/
def execBit7_B (s : State) : Result := finish 8 (testBit 7 (.reg .b) s)

/-- `BIT 7,C`, opcode CB 79 (R300). -/
def execBit7_C (s : State) : Result := finish 8 (testBit 7 (.reg .c) s)

/-- `BIT 7,D`, opcode CB 7A (R300). -/
def execBit7_D (s : State) : Result := finish 8 (testBit 7 (.reg .d) s)

/-- `BIT 7,E`, opcode CB 7B (R300). -/
def execBit7_E (s : State) : Result := finish 8 (testBit 7 (.reg .e) s)

/-- `BIT 7,H`, opcode CB 7C (R300). -/
def execBit7_H (s : State) : Result := finish 8 (testBit 7 (.reg .h) s)

/-- `BIT 7,L`, opcode CB 7D (R300). -/
def execBit7_L (s : State) : Result := finish 8 (testBit 7 (.reg .l) s)

/-- `BIT 7,(HL)`, opcode CB 7E (R301). -/
def execBit7_MemHL (s : State) : Result := finish 12 (testBit 7 .memHL s)

/-- `BIT 7,A`, opcode CB 7F (R300). -/
def execBit7_A (s : State) : Result := finish 8 (testBit 7 (.reg .a) s)

/-- `RES 0,B`, opcode CB 80 (R302). -/
def execRes0_B (s : State) : Result := finish 8 (resetBit 0 (.reg .b) s)

/-- `RES 0,C`, opcode CB 81 (R302). -/
def execRes0_C (s : State) : Result := finish 8 (resetBit 0 (.reg .c) s)

/-- `RES 0,D`, opcode CB 82 (R302). -/
def execRes0_D (s : State) : Result := finish 8 (resetBit 0 (.reg .d) s)

/-- `RES 0,E`, opcode CB 83 (R302). -/
def execRes0_E (s : State) : Result := finish 8 (resetBit 0 (.reg .e) s)

/-- `RES 0,H`, opcode CB 84 (R302). -/
def execRes0_H (s : State) : Result := finish 8 (resetBit 0 (.reg .h) s)

/-- `RES 0,L`, opcode CB 85 (R302). -/
def execRes0_L (s : State) : Result := finish 8 (resetBit 0 (.reg .l) s)

/-- `RES 0,(HL)`, opcode CB 86 (R303). -/
def execRes0_MemHL (s : State) : Result := finish 16 (resetBit 0 .memHL s)

/-- `RES 0,A`, opcode CB 87 (R302). -/
def execRes0_A (s : State) : Result := finish 8 (resetBit 0 (.reg .a) s)

/-- `RES 1,B`, opcode CB 88 (R302). -/
def execRes1_B (s : State) : Result := finish 8 (resetBit 1 (.reg .b) s)

/-- `RES 1,C`, opcode CB 89 (R302). -/
def execRes1_C (s : State) : Result := finish 8 (resetBit 1 (.reg .c) s)

/-- `RES 1,D`, opcode CB 8A (R302). -/
def execRes1_D (s : State) : Result := finish 8 (resetBit 1 (.reg .d) s)

/-- `RES 1,E`, opcode CB 8B (R302). -/
def execRes1_E (s : State) : Result := finish 8 (resetBit 1 (.reg .e) s)

/-- `RES 1,H`, opcode CB 8C (R302). -/
def execRes1_H (s : State) : Result := finish 8 (resetBit 1 (.reg .h) s)

/-- `RES 1,L`, opcode CB 8D (R302). -/
def execRes1_L (s : State) : Result := finish 8 (resetBit 1 (.reg .l) s)

/-- `RES 1,(HL)`, opcode CB 8E (R303). -/
def execRes1_MemHL (s : State) : Result := finish 16 (resetBit 1 .memHL s)

/-- `RES 1,A`, opcode CB 8F (R302). -/
def execRes1_A (s : State) : Result := finish 8 (resetBit 1 (.reg .a) s)

/-- `RES 2,B`, opcode CB 90 (R302). -/
def execRes2_B (s : State) : Result := finish 8 (resetBit 2 (.reg .b) s)

/-- `RES 2,C`, opcode CB 91 (R302). -/
def execRes2_C (s : State) : Result := finish 8 (resetBit 2 (.reg .c) s)

/-- `RES 2,D`, opcode CB 92 (R302). -/
def execRes2_D (s : State) : Result := finish 8 (resetBit 2 (.reg .d) s)

/-- `RES 2,E`, opcode CB 93 (R302). -/
def execRes2_E (s : State) : Result := finish 8 (resetBit 2 (.reg .e) s)

/-- `RES 2,H`, opcode CB 94 (R302). -/
def execRes2_H (s : State) : Result := finish 8 (resetBit 2 (.reg .h) s)

/-- `RES 2,L`, opcode CB 95 (R302). -/
def execRes2_L (s : State) : Result := finish 8 (resetBit 2 (.reg .l) s)

/-- `RES 2,(HL)`, opcode CB 96 (R303). -/
def execRes2_MemHL (s : State) : Result := finish 16 (resetBit 2 .memHL s)

/-- `RES 2,A`, opcode CB 97 (R302). -/
def execRes2_A (s : State) : Result := finish 8 (resetBit 2 (.reg .a) s)

/-- `RES 3,B`, opcode CB 98 (R302). -/
def execRes3_B (s : State) : Result := finish 8 (resetBit 3 (.reg .b) s)

/-- `RES 3,C`, opcode CB 99 (R302). -/
def execRes3_C (s : State) : Result := finish 8 (resetBit 3 (.reg .c) s)

/-- `RES 3,D`, opcode CB 9A (R302). -/
def execRes3_D (s : State) : Result := finish 8 (resetBit 3 (.reg .d) s)

/-- `RES 3,E`, opcode CB 9B (R302). -/
def execRes3_E (s : State) : Result := finish 8 (resetBit 3 (.reg .e) s)

/-- `RES 3,H`, opcode CB 9C (R302). -/
def execRes3_H (s : State) : Result := finish 8 (resetBit 3 (.reg .h) s)

/-- `RES 3,L`, opcode CB 9D (R302). -/
def execRes3_L (s : State) : Result := finish 8 (resetBit 3 (.reg .l) s)

/-- `RES 3,(HL)`, opcode CB 9E (R303). -/
def execRes3_MemHL (s : State) : Result := finish 16 (resetBit 3 .memHL s)

/-- `RES 3,A`, opcode CB 9F (R302). -/
def execRes3_A (s : State) : Result := finish 8 (resetBit 3 (.reg .a) s)

/-- `RES 4,B`, opcode CB A0 (R302). -/
def execRes4_B (s : State) : Result := finish 8 (resetBit 4 (.reg .b) s)

/-- `RES 4,C`, opcode CB A1 (R302). -/
def execRes4_C (s : State) : Result := finish 8 (resetBit 4 (.reg .c) s)

/-- `RES 4,D`, opcode CB A2 (R302). -/
def execRes4_D (s : State) : Result := finish 8 (resetBit 4 (.reg .d) s)

/-- `RES 4,E`, opcode CB A3 (R302). -/
def execRes4_E (s : State) : Result := finish 8 (resetBit 4 (.reg .e) s)

/-- `RES 4,H`, opcode CB A4 (R302). -/
def execRes4_H (s : State) : Result := finish 8 (resetBit 4 (.reg .h) s)

/-- `RES 4,L`, opcode CB A5 (R302). -/
def execRes4_L (s : State) : Result := finish 8 (resetBit 4 (.reg .l) s)

/-- `RES 4,(HL)`, opcode CB A6 (R303). -/
def execRes4_MemHL (s : State) : Result := finish 16 (resetBit 4 .memHL s)

/-- `RES 4,A`, opcode CB A7 (R302). -/
def execRes4_A (s : State) : Result := finish 8 (resetBit 4 (.reg .a) s)

/-- `RES 5,B`, opcode CB A8 (R302). -/
def execRes5_B (s : State) : Result := finish 8 (resetBit 5 (.reg .b) s)

/-- `RES 5,C`, opcode CB A9 (R302). -/
def execRes5_C (s : State) : Result := finish 8 (resetBit 5 (.reg .c) s)

/-- `RES 5,D`, opcode CB AA (R302). -/
def execRes5_D (s : State) : Result := finish 8 (resetBit 5 (.reg .d) s)

/-- `RES 5,E`, opcode CB AB (R302). -/
def execRes5_E (s : State) : Result := finish 8 (resetBit 5 (.reg .e) s)

/-- `RES 5,H`, opcode CB AC (R302). -/
def execRes5_H (s : State) : Result := finish 8 (resetBit 5 (.reg .h) s)

/-- `RES 5,L`, opcode CB AD (R302). -/
def execRes5_L (s : State) : Result := finish 8 (resetBit 5 (.reg .l) s)

/-- `RES 5,(HL)`, opcode CB AE (R303). -/
def execRes5_MemHL (s : State) : Result := finish 16 (resetBit 5 .memHL s)

/-- `RES 5,A`, opcode CB AF (R302). -/
def execRes5_A (s : State) : Result := finish 8 (resetBit 5 (.reg .a) s)

/-- `RES 6,B`, opcode CB B0 (R302). -/
def execRes6_B (s : State) : Result := finish 8 (resetBit 6 (.reg .b) s)

/-- `RES 6,C`, opcode CB B1 (R302). -/
def execRes6_C (s : State) : Result := finish 8 (resetBit 6 (.reg .c) s)

/-- `RES 6,D`, opcode CB B2 (R302). -/
def execRes6_D (s : State) : Result := finish 8 (resetBit 6 (.reg .d) s)

/-- `RES 6,E`, opcode CB B3 (R302). -/
def execRes6_E (s : State) : Result := finish 8 (resetBit 6 (.reg .e) s)

/-- `RES 6,H`, opcode CB B4 (R302). -/
def execRes6_H (s : State) : Result := finish 8 (resetBit 6 (.reg .h) s)

/-- `RES 6,L`, opcode CB B5 (R302). -/
def execRes6_L (s : State) : Result := finish 8 (resetBit 6 (.reg .l) s)

/-- `RES 6,(HL)`, opcode CB B6 (R303). -/
def execRes6_MemHL (s : State) : Result := finish 16 (resetBit 6 .memHL s)

/-- `RES 6,A`, opcode CB B7 (R302). -/
def execRes6_A (s : State) : Result := finish 8 (resetBit 6 (.reg .a) s)

/-- `RES 7,B`, opcode CB B8 (R302). -/
def execRes7_B (s : State) : Result := finish 8 (resetBit 7 (.reg .b) s)

/-- `RES 7,C`, opcode CB B9 (R302). -/
def execRes7_C (s : State) : Result := finish 8 (resetBit 7 (.reg .c) s)

/-- `RES 7,D`, opcode CB BA (R302). -/
def execRes7_D (s : State) : Result := finish 8 (resetBit 7 (.reg .d) s)

/-- `RES 7,E`, opcode CB BB (R302). -/
def execRes7_E (s : State) : Result := finish 8 (resetBit 7 (.reg .e) s)

/-- `RES 7,H`, opcode CB BC (R302). -/
def execRes7_H (s : State) : Result := finish 8 (resetBit 7 (.reg .h) s)

/-- `RES 7,L`, opcode CB BD (R302). -/
def execRes7_L (s : State) : Result := finish 8 (resetBit 7 (.reg .l) s)

/-- `RES 7,(HL)`, opcode CB BE (R303). -/
def execRes7_MemHL (s : State) : Result := finish 16 (resetBit 7 .memHL s)

/-- `RES 7,A`, opcode CB BF (R302). -/
def execRes7_A (s : State) : Result := finish 8 (resetBit 7 (.reg .a) s)

/-- `SET 0,B`, opcode CB C0 (R304). -/
def execSet0_B (s : State) : Result := finish 8 (setBit 0 (.reg .b) s)

/-- `SET 0,C`, opcode CB C1 (R304). -/
def execSet0_C (s : State) : Result := finish 8 (setBit 0 (.reg .c) s)

/-- `SET 0,D`, opcode CB C2 (R304). -/
def execSet0_D (s : State) : Result := finish 8 (setBit 0 (.reg .d) s)

/-- `SET 0,E`, opcode CB C3 (R304). -/
def execSet0_E (s : State) : Result := finish 8 (setBit 0 (.reg .e) s)

/-- `SET 0,H`, opcode CB C4 (R304). -/
def execSet0_H (s : State) : Result := finish 8 (setBit 0 (.reg .h) s)

/-- `SET 0,L`, opcode CB C5 (R304). -/
def execSet0_L (s : State) : Result := finish 8 (setBit 0 (.reg .l) s)

/-- `SET 0,(HL)`, opcode CB C6 (R305). -/
def execSet0_MemHL (s : State) : Result := finish 16 (setBit 0 .memHL s)

/-- `SET 0,A`, opcode CB C7 (R304). -/
def execSet0_A (s : State) : Result := finish 8 (setBit 0 (.reg .a) s)

/-- `SET 1,B`, opcode CB C8 (R304). -/
def execSet1_B (s : State) : Result := finish 8 (setBit 1 (.reg .b) s)

/-- `SET 1,C`, opcode CB C9 (R304). -/
def execSet1_C (s : State) : Result := finish 8 (setBit 1 (.reg .c) s)

/-- `SET 1,D`, opcode CB CA (R304). -/
def execSet1_D (s : State) : Result := finish 8 (setBit 1 (.reg .d) s)

/-- `SET 1,E`, opcode CB CB (R304). -/
def execSet1_E (s : State) : Result := finish 8 (setBit 1 (.reg .e) s)

/-- `SET 1,H`, opcode CB CC (R304). -/
def execSet1_H (s : State) : Result := finish 8 (setBit 1 (.reg .h) s)

/-- `SET 1,L`, opcode CB CD (R304). -/
def execSet1_L (s : State) : Result := finish 8 (setBit 1 (.reg .l) s)

/-- `SET 1,(HL)`, opcode CB CE (R305). -/
def execSet1_MemHL (s : State) : Result := finish 16 (setBit 1 .memHL s)

/-- `SET 1,A`, opcode CB CF (R304). -/
def execSet1_A (s : State) : Result := finish 8 (setBit 1 (.reg .a) s)

/-- `SET 2,B`, opcode CB D0 (R304). -/
def execSet2_B (s : State) : Result := finish 8 (setBit 2 (.reg .b) s)

/-- `SET 2,C`, opcode CB D1 (R304). -/
def execSet2_C (s : State) : Result := finish 8 (setBit 2 (.reg .c) s)

/-- `SET 2,D`, opcode CB D2 (R304). -/
def execSet2_D (s : State) : Result := finish 8 (setBit 2 (.reg .d) s)

/-- `SET 2,E`, opcode CB D3 (R304). -/
def execSet2_E (s : State) : Result := finish 8 (setBit 2 (.reg .e) s)

/-- `SET 2,H`, opcode CB D4 (R304). -/
def execSet2_H (s : State) : Result := finish 8 (setBit 2 (.reg .h) s)

/-- `SET 2,L`, opcode CB D5 (R304). -/
def execSet2_L (s : State) : Result := finish 8 (setBit 2 (.reg .l) s)

/-- `SET 2,(HL)`, opcode CB D6 (R305). -/
def execSet2_MemHL (s : State) : Result := finish 16 (setBit 2 .memHL s)

/-- `SET 2,A`, opcode CB D7 (R304). -/
def execSet2_A (s : State) : Result := finish 8 (setBit 2 (.reg .a) s)

/-- `SET 3,B`, opcode CB D8 (R304). -/
def execSet3_B (s : State) : Result := finish 8 (setBit 3 (.reg .b) s)

/-- `SET 3,C`, opcode CB D9 (R304). -/
def execSet3_C (s : State) : Result := finish 8 (setBit 3 (.reg .c) s)

/-- `SET 3,D`, opcode CB DA (R304). -/
def execSet3_D (s : State) : Result := finish 8 (setBit 3 (.reg .d) s)

/-- `SET 3,E`, opcode CB DB (R304). -/
def execSet3_E (s : State) : Result := finish 8 (setBit 3 (.reg .e) s)

/-- `SET 3,H`, opcode CB DC (R304). -/
def execSet3_H (s : State) : Result := finish 8 (setBit 3 (.reg .h) s)

/-- `SET 3,L`, opcode CB DD (R304). -/
def execSet3_L (s : State) : Result := finish 8 (setBit 3 (.reg .l) s)

/-- `SET 3,(HL)`, opcode CB DE (R305). -/
def execSet3_MemHL (s : State) : Result := finish 16 (setBit 3 .memHL s)

/-- `SET 3,A`, opcode CB DF (R304). -/
def execSet3_A (s : State) : Result := finish 8 (setBit 3 (.reg .a) s)

/-- `SET 4,B`, opcode CB E0 (R304). -/
def execSet4_B (s : State) : Result := finish 8 (setBit 4 (.reg .b) s)

/-- `SET 4,C`, opcode CB E1 (R304). -/
def execSet4_C (s : State) : Result := finish 8 (setBit 4 (.reg .c) s)

/-- `SET 4,D`, opcode CB E2 (R304). -/
def execSet4_D (s : State) : Result := finish 8 (setBit 4 (.reg .d) s)

/-- `SET 4,E`, opcode CB E3 (R304). -/
def execSet4_E (s : State) : Result := finish 8 (setBit 4 (.reg .e) s)

/-- `SET 4,H`, opcode CB E4 (R304). -/
def execSet4_H (s : State) : Result := finish 8 (setBit 4 (.reg .h) s)

/-- `SET 4,L`, opcode CB E5 (R304). -/
def execSet4_L (s : State) : Result := finish 8 (setBit 4 (.reg .l) s)

/-- `SET 4,(HL)`, opcode CB E6 (R305). -/
def execSet4_MemHL (s : State) : Result := finish 16 (setBit 4 .memHL s)

/-- `SET 4,A`, opcode CB E7 (R304). -/
def execSet4_A (s : State) : Result := finish 8 (setBit 4 (.reg .a) s)

/-- `SET 5,B`, opcode CB E8 (R304). -/
def execSet5_B (s : State) : Result := finish 8 (setBit 5 (.reg .b) s)

/-- `SET 5,C`, opcode CB E9 (R304). -/
def execSet5_C (s : State) : Result := finish 8 (setBit 5 (.reg .c) s)

/-- `SET 5,D`, opcode CB EA (R304). -/
def execSet5_D (s : State) : Result := finish 8 (setBit 5 (.reg .d) s)

/-- `SET 5,E`, opcode CB EB (R304). -/
def execSet5_E (s : State) : Result := finish 8 (setBit 5 (.reg .e) s)

/-- `SET 5,H`, opcode CB EC (R304). -/
def execSet5_H (s : State) : Result := finish 8 (setBit 5 (.reg .h) s)

/-- `SET 5,L`, opcode CB ED (R304). -/
def execSet5_L (s : State) : Result := finish 8 (setBit 5 (.reg .l) s)

/-- `SET 5,(HL)`, opcode CB EE (R305). -/
def execSet5_MemHL (s : State) : Result := finish 16 (setBit 5 .memHL s)

/-- `SET 5,A`, opcode CB EF (R304). -/
def execSet5_A (s : State) : Result := finish 8 (setBit 5 (.reg .a) s)

/-- `SET 6,B`, opcode CB F0 (R304). -/
def execSet6_B (s : State) : Result := finish 8 (setBit 6 (.reg .b) s)

/-- `SET 6,C`, opcode CB F1 (R304). -/
def execSet6_C (s : State) : Result := finish 8 (setBit 6 (.reg .c) s)

/-- `SET 6,D`, opcode CB F2 (R304). -/
def execSet6_D (s : State) : Result := finish 8 (setBit 6 (.reg .d) s)

/-- `SET 6,E`, opcode CB F3 (R304). -/
def execSet6_E (s : State) : Result := finish 8 (setBit 6 (.reg .e) s)

/-- `SET 6,H`, opcode CB F4 (R304). -/
def execSet6_H (s : State) : Result := finish 8 (setBit 6 (.reg .h) s)

/-- `SET 6,L`, opcode CB F5 (R304). -/
def execSet6_L (s : State) : Result := finish 8 (setBit 6 (.reg .l) s)

/-- `SET 6,(HL)`, opcode CB F6 (R305). -/
def execSet6_MemHL (s : State) : Result := finish 16 (setBit 6 .memHL s)

/-- `SET 6,A`, opcode CB F7 (R304). -/
def execSet6_A (s : State) : Result := finish 8 (setBit 6 (.reg .a) s)

/-- `SET 7,B`, opcode CB F8 (R304). -/
def execSet7_B (s : State) : Result := finish 8 (setBit 7 (.reg .b) s)

/-- `SET 7,C`, opcode CB F9 (R304). -/
def execSet7_C (s : State) : Result := finish 8 (setBit 7 (.reg .c) s)

/-- `SET 7,D`, opcode CB FA (R304). -/
def execSet7_D (s : State) : Result := finish 8 (setBit 7 (.reg .d) s)

/-- `SET 7,E`, opcode CB FB (R304). -/
def execSet7_E (s : State) : Result := finish 8 (setBit 7 (.reg .e) s)

/-- `SET 7,H`, opcode CB FC (R304). -/
def execSet7_H (s : State) : Result := finish 8 (setBit 7 (.reg .h) s)

/-- `SET 7,L`, opcode CB FD (R304). -/
def execSet7_L (s : State) : Result := finish 8 (setBit 7 (.reg .l) s)

/-- `SET 7,(HL)`, opcode CB FE (R305). -/
def execSet7_MemHL (s : State) : Result := finish 16 (setBit 7 .memHL s)

/-- `SET 7,A`, opcode CB FF (R304). -/
def execSet7_A (s : State) : Result := finish 8 (setBit 7 (.reg .a) s)

end Sys2Proof.Machine
end

