-- ==== Sys2Proof/Machine/RotateShift.lean ====
section
/-! DEFINITION. Rotates and shifts (44_rotate_shift.md R270..R290): the shared operations, then the meaning of each instruction, in the
table's order. A meaning runs with PC past the instruction (R13) and ends with `finish`, which sets the step's cost. -/

namespace Sys2Proof.Machine

/-- RLCA, RRCA, RLA, RRA: the rotation of A with Z cleared (R270..R273). -/
def rotateA (o : ShiftOp) (s : State) : State :=
  let r := shift o s.cpu.a s.flags.c
  (s.setReg .a r.1).setFlags (rotateAFlags r.2)

/-- The register and memory forms of a CB rotate or shift (R275..R290). -/
def shiftPlace (o : ShiftOp) (p : Place) (s : State) : State :=
  let v := s.readPlace p
  let r := shift o v.1 s.flags.c
  (v.2.writePlace p r.1).setFlags (shiftFlags r)

/-! ## The meanings -/

/-- `RLCA`, opcode 07 (R270). -/
def execRlca (s : State) : Result := finish 4 (rotateA .rlc s)

/-- `RRCA`, opcode 0F (R271). -/
def execRrca (s : State) : Result := finish 4 (rotateA .rrc s)

/-- `RLA`, opcode 17 (R272). -/
def execRla (s : State) : Result := finish 4 (rotateA .rl s)

/-- `RRA`, opcode 1F (R273). -/
def execRra (s : State) : Result := finish 4 (rotateA .rr s)

/-- `RLC B`, opcode CB 00 (R275). -/
def execRlcB (s : State) : Result := finish 8 (shiftPlace .rlc (.reg .b) s)

/-- `RLC C`, opcode CB 01 (R275). -/
def execRlcC (s : State) : Result := finish 8 (shiftPlace .rlc (.reg .c) s)

/-- `RLC D`, opcode CB 02 (R275). -/
def execRlcD (s : State) : Result := finish 8 (shiftPlace .rlc (.reg .d) s)

/-- `RLC E`, opcode CB 03 (R275). -/
def execRlcE (s : State) : Result := finish 8 (shiftPlace .rlc (.reg .e) s)

/-- `RLC H`, opcode CB 04 (R275). -/
def execRlcH (s : State) : Result := finish 8 (shiftPlace .rlc (.reg .h) s)

/-- `RLC L`, opcode CB 05 (R275). -/
def execRlcL (s : State) : Result := finish 8 (shiftPlace .rlc (.reg .l) s)

/-- `RLC (HL)`, opcode CB 06 (R276). -/
def execRlcMemHL (s : State) : Result := finish 16 (shiftPlace .rlc .memHL s)

/-- `RLC A`, opcode CB 07 (R275). -/
def execRlcA (s : State) : Result := finish 8 (shiftPlace .rlc (.reg .a) s)

/-- `RRC B`, opcode CB 08 (R277). -/
def execRrcB (s : State) : Result := finish 8 (shiftPlace .rrc (.reg .b) s)

/-- `RRC C`, opcode CB 09 (R277). -/
def execRrcC (s : State) : Result := finish 8 (shiftPlace .rrc (.reg .c) s)

/-- `RRC D`, opcode CB 0A (R277). -/
def execRrcD (s : State) : Result := finish 8 (shiftPlace .rrc (.reg .d) s)

/-- `RRC E`, opcode CB 0B (R277). -/
def execRrcE (s : State) : Result := finish 8 (shiftPlace .rrc (.reg .e) s)

/-- `RRC H`, opcode CB 0C (R277). -/
def execRrcH (s : State) : Result := finish 8 (shiftPlace .rrc (.reg .h) s)

/-- `RRC L`, opcode CB 0D (R277). -/
def execRrcL (s : State) : Result := finish 8 (shiftPlace .rrc (.reg .l) s)

/-- `RRC (HL)`, opcode CB 0E (R278). -/
def execRrcMemHL (s : State) : Result := finish 16 (shiftPlace .rrc .memHL s)

/-- `RRC A`, opcode CB 0F (R277). -/
def execRrcA (s : State) : Result := finish 8 (shiftPlace .rrc (.reg .a) s)

/-- `RL B`, opcode CB 10 (R279). -/
def execRlB (s : State) : Result := finish 8 (shiftPlace .rl (.reg .b) s)

/-- `RL C`, opcode CB 11 (R279). -/
def execRlC (s : State) : Result := finish 8 (shiftPlace .rl (.reg .c) s)

/-- `RL D`, opcode CB 12 (R279). -/
def execRlD (s : State) : Result := finish 8 (shiftPlace .rl (.reg .d) s)

/-- `RL E`, opcode CB 13 (R279). -/
def execRlE (s : State) : Result := finish 8 (shiftPlace .rl (.reg .e) s)

/-- `RL H`, opcode CB 14 (R279). -/
def execRlH (s : State) : Result := finish 8 (shiftPlace .rl (.reg .h) s)

/-- `RL L`, opcode CB 15 (R279). -/
def execRlL (s : State) : Result := finish 8 (shiftPlace .rl (.reg .l) s)

/-- `RL (HL)`, opcode CB 16 (R280). -/
def execRlMemHL (s : State) : Result := finish 16 (shiftPlace .rl .memHL s)

/-- `RL A`, opcode CB 17 (R279). -/
def execRlA (s : State) : Result := finish 8 (shiftPlace .rl (.reg .a) s)

/-- `RR B`, opcode CB 18 (R281). -/
def execRrB (s : State) : Result := finish 8 (shiftPlace .rr (.reg .b) s)

/-- `RR C`, opcode CB 19 (R281). -/
def execRrC (s : State) : Result := finish 8 (shiftPlace .rr (.reg .c) s)

/-- `RR D`, opcode CB 1A (R281). -/
def execRrD (s : State) : Result := finish 8 (shiftPlace .rr (.reg .d) s)

/-- `RR E`, opcode CB 1B (R281). -/
def execRrE (s : State) : Result := finish 8 (shiftPlace .rr (.reg .e) s)

/-- `RR H`, opcode CB 1C (R281). -/
def execRrH (s : State) : Result := finish 8 (shiftPlace .rr (.reg .h) s)

/-- `RR L`, opcode CB 1D (R281). -/
def execRrL (s : State) : Result := finish 8 (shiftPlace .rr (.reg .l) s)

/-- `RR (HL)`, opcode CB 1E (R282). -/
def execRrMemHL (s : State) : Result := finish 16 (shiftPlace .rr .memHL s)

/-- `RR A`, opcode CB 1F (R281). -/
def execRrA (s : State) : Result := finish 8 (shiftPlace .rr (.reg .a) s)

/-- `SLA B`, opcode CB 20 (R283). -/
def execSlaB (s : State) : Result := finish 8 (shiftPlace .sla (.reg .b) s)

/-- `SLA C`, opcode CB 21 (R283). -/
def execSlaC (s : State) : Result := finish 8 (shiftPlace .sla (.reg .c) s)

/-- `SLA D`, opcode CB 22 (R283). -/
def execSlaD (s : State) : Result := finish 8 (shiftPlace .sla (.reg .d) s)

/-- `SLA E`, opcode CB 23 (R283). -/
def execSlaE (s : State) : Result := finish 8 (shiftPlace .sla (.reg .e) s)

/-- `SLA H`, opcode CB 24 (R283). -/
def execSlaH (s : State) : Result := finish 8 (shiftPlace .sla (.reg .h) s)

/-- `SLA L`, opcode CB 25 (R283). -/
def execSlaL (s : State) : Result := finish 8 (shiftPlace .sla (.reg .l) s)

/-- `SLA (HL)`, opcode CB 26 (R284). -/
def execSlaMemHL (s : State) : Result := finish 16 (shiftPlace .sla .memHL s)

/-- `SLA A`, opcode CB 27 (R283). -/
def execSlaA (s : State) : Result := finish 8 (shiftPlace .sla (.reg .a) s)

/-- `SRA B`, opcode CB 28 (R285). -/
def execSraB (s : State) : Result := finish 8 (shiftPlace .sra (.reg .b) s)

/-- `SRA C`, opcode CB 29 (R285). -/
def execSraC (s : State) : Result := finish 8 (shiftPlace .sra (.reg .c) s)

/-- `SRA D`, opcode CB 2A (R285). -/
def execSraD (s : State) : Result := finish 8 (shiftPlace .sra (.reg .d) s)

/-- `SRA E`, opcode CB 2B (R285). -/
def execSraE (s : State) : Result := finish 8 (shiftPlace .sra (.reg .e) s)

/-- `SRA H`, opcode CB 2C (R285). -/
def execSraH (s : State) : Result := finish 8 (shiftPlace .sra (.reg .h) s)

/-- `SRA L`, opcode CB 2D (R285). -/
def execSraL (s : State) : Result := finish 8 (shiftPlace .sra (.reg .l) s)

/-- `SRA (HL)`, opcode CB 2E (R286). -/
def execSraMemHL (s : State) : Result := finish 16 (shiftPlace .sra .memHL s)

/-- `SRA A`, opcode CB 2F (R285). -/
def execSraA (s : State) : Result := finish 8 (shiftPlace .sra (.reg .a) s)

/-- `SWAP B`, opcode CB 30 (R287). -/
def execSwapB (s : State) : Result := finish 8 (shiftPlace .swap (.reg .b) s)

/-- `SWAP C`, opcode CB 31 (R287). -/
def execSwapC (s : State) : Result := finish 8 (shiftPlace .swap (.reg .c) s)

/-- `SWAP D`, opcode CB 32 (R287). -/
def execSwapD (s : State) : Result := finish 8 (shiftPlace .swap (.reg .d) s)

/-- `SWAP E`, opcode CB 33 (R287). -/
def execSwapE (s : State) : Result := finish 8 (shiftPlace .swap (.reg .e) s)

/-- `SWAP H`, opcode CB 34 (R287). -/
def execSwapH (s : State) : Result := finish 8 (shiftPlace .swap (.reg .h) s)

/-- `SWAP L`, opcode CB 35 (R287). -/
def execSwapL (s : State) : Result := finish 8 (shiftPlace .swap (.reg .l) s)

/-- `SWAP (HL)`, opcode CB 36 (R288). -/
def execSwapMemHL (s : State) : Result := finish 16 (shiftPlace .swap .memHL s)

/-- `SWAP A`, opcode CB 37 (R287). -/
def execSwapA (s : State) : Result := finish 8 (shiftPlace .swap (.reg .a) s)

/-- `SRL B`, opcode CB 38 (R289). -/
def execSrlB (s : State) : Result := finish 8 (shiftPlace .srl (.reg .b) s)

/-- `SRL C`, opcode CB 39 (R289). -/
def execSrlC (s : State) : Result := finish 8 (shiftPlace .srl (.reg .c) s)

/-- `SRL D`, opcode CB 3A (R289). -/
def execSrlD (s : State) : Result := finish 8 (shiftPlace .srl (.reg .d) s)

/-- `SRL E`, opcode CB 3B (R289). -/
def execSrlE (s : State) : Result := finish 8 (shiftPlace .srl (.reg .e) s)

/-- `SRL H`, opcode CB 3C (R289). -/
def execSrlH (s : State) : Result := finish 8 (shiftPlace .srl (.reg .h) s)

/-- `SRL L`, opcode CB 3D (R289). -/
def execSrlL (s : State) : Result := finish 8 (shiftPlace .srl (.reg .l) s)

/-- `SRL (HL)`, opcode CB 3E (R290). -/
def execSrlMemHL (s : State) : Result := finish 16 (shiftPlace .srl .memHL s)

/-- `SRL A`, opcode CB 3F (R289). -/
def execSrlA (s : State) : Result := finish 8 (shiftPlace .srl (.reg .a) s)

end Sys2Proof.Machine
end

