-- ==== Sys2Proof/Machine/CpuControl.lean ====
section
/-! DEFINITION. CPU control, the CB escape and the undefined opcodes (47_cpu_control.md R350..R356): the shared operations, then the meaning of each instruction, in the
table's order. A meaning runs with PC past the instruction (R13) and ends with `finish`, which sets the step's cost. -/

namespace Sys2Proof.Machine

/-- `halted <- 1` (R351). -/
def enterHalt (s : State) : State := s.setHalted true

/-- `stopped <- 1`; the byte after the opcode is fetched and ignored (R352). -/
def enterStop (s : State) : State := s.setStopped true

/-- `ime_disable_delay <- DI_DELAY` (R353). -/
def scheduleDi (s : State) : State := s.scheduleDisable s.params.diDelay

/-- `ime_enable_delay <- EI_DELAY` (R354). -/
def scheduleEi (s : State) : State := s.scheduleEnable s.params.eiDelay

/-- `diag(UnknownOpcode(op))` (R356). -/
def undefinedOpcode (op : Byte) (s : State) : State := s.logDiag (.unknownOpcode op)

/-- The operand `x[z]` of a CB byte (R116, R120). -/
def placeOf (z : BitVec 3) : Place :=
  match z.toNat with
  | 0 => .reg .b
  | 1 => .reg .c
  | 2 => .reg .d
  | 3 => .reg .e
  | 4 => .reg .h
  | 5 => .reg .l
  | 6 => .memHL
  | _ => .reg .a

/-- The rotate or shift with index y (R120). -/
def shiftOpOf (y : BitVec 3) : ShiftOp :=
  match y.toNat with
  | 0 => .rlc
  | 1 => .rrc
  | 2 => .rl
  | 3 => .rr
  | 4 => .sla
  | 5 => .sra
  | 6 => .swap
  | _ => .srl

/-- A cost that depends on whether the operand is a register or the byte at HL. -/
def placeCost (p : Place) (reg mem : Nat) : Nat :=
  match p with
  | .reg _ => reg
  | .memHL => mem

/-- Runs the rule of the CB row `0xCB<cb>`, read off the fields of cb (R120): x selects shift, BIT, RES or SET, y the
shift or the bit, z the operand. -/
def runCb (cb : Byte) (s : State) : Result :=
  let p := placeOf (fieldZ cb)
  let n := (fieldY cb).toFin
  match (fieldX cb).toNat with
  | 0 => finish (placeCost p 8 16) (shiftPlace (shiftOpOf (fieldY cb)) p s)
  | 1 => finish (placeCost p 8 12) (testBit n p s)
  | 2 => finish (placeCost p 8 16) (resetBit n p s)
  | _ => finish (placeCost p 8 16) (setBit n p s)

/-! ## The meanings -/

/-- `NOP`, opcode 00 (R350). -/
def execNop (s : State) : Result := finish 4 s

/-- `STOP`, opcode 10 (R352). -/
def execStop (_ignored : Byte) (s : State) : Result := finish 4 (enterStop s)

/-- `HALT`, opcode 76 (R351). -/
def execHalt (s : State) : Result := finish 4 (enterHalt s)

/-- `PREFIX CB`, opcode CB: runs the rule of the row `0xCB<cb>` (R355). -/
def execPrefixCb (cb : Byte) (s : State) : Result := runCb cb s

/-- `undefined opcode`, opcode D3 (R356). -/
def execUndefD3 (s : State) : Result := finish 4 (undefinedOpcode 0xD3 s)

/-- `undefined opcode`, opcode DB (R356). -/
def execUndefDB (s : State) : Result := finish 4 (undefinedOpcode 0xDB s)

/-- `undefined opcode`, opcode DD (R356). -/
def execUndefDD (s : State) : Result := finish 4 (undefinedOpcode 0xDD s)

/-- `undefined opcode`, opcode E3 (R356). -/
def execUndefE3 (s : State) : Result := finish 4 (undefinedOpcode 0xE3 s)

/-- `undefined opcode`, opcode E4 (R356). -/
def execUndefE4 (s : State) : Result := finish 4 (undefinedOpcode 0xE4 s)

/-- `undefined opcode`, opcode EB (R356). -/
def execUndefEB (s : State) : Result := finish 4 (undefinedOpcode 0xEB s)

/-- `undefined opcode`, opcode EC (R356). -/
def execUndefEC (s : State) : Result := finish 4 (undefinedOpcode 0xEC s)

/-- `undefined opcode`, opcode ED (R356). -/
def execUndefED (s : State) : Result := finish 4 (undefinedOpcode 0xED s)

/-- `DI`, opcode F3 (R353). -/
def execDi (s : State) : Result := finish 4 (scheduleDi s)

/-- `undefined opcode`, opcode F4 (R356). -/
def execUndefF4 (s : State) : Result := finish 4 (undefinedOpcode 0xF4 s)

/-- `EI`, opcode FB (R354). -/
def execEi (s : State) : Result := finish 4 (scheduleEi s)

/-- `undefined opcode`, opcode FC (R356). -/
def execUndefFC (s : State) : Result := finish 4 (undefinedOpcode 0xFC s)

/-- `undefined opcode`, opcode FD (R356). -/
def execUndefFD (s : State) : Result := finish 4 (undefinedOpcode 0xFD s)

end Sys2Proof.Machine
end

