-- ==== Sys2Proof/Machine/Loads.lean ====
section
/-! DEFINITION. Loads, stores and stack transfers (41_loads.md R160..R184): the shared operations, then the meaning of each instruction, in the
table's order. A meaning runs with PC past the instruction (R13) and ends with `finish`, which sets the step's cost. -/

namespace Sys2Proof.Machine

/-- `x[y] <- x[z]` (R160). -/
def loadRegReg (dst src : Reg8) (s : State) : State := s.setReg dst (s.getReg src)

/-- `a <- HL; x[y] <- MemRead(a, 1)` (R161). -/
def loadRegMem (dst : Reg8) (s : State) : State :=
  let v := s.read8 s.hl
  v.2.setReg dst v.1

/-- `MemWrite(HL, 1, x[z])` (R162). -/
def loadMemReg (src : Reg8) (s : State) : State := s.write8 s.hl (s.getReg src)

/-- `x[y] <- v` (R163). -/
def loadRegImm (dst : Reg8) (v : Byte) (s : State) : State := s.setReg dst v

/-- `MemWrite(HL, 1, v)` (R164). -/
def loadMemImm (v : Byte) (s : State) : State := s.write8 s.hl v

/-- `A <- MemRead(a, 1)` (R165, R166, R173, R175, R177). -/
def loadAFrom (a : Word) (s : State) : State :=
  let v := s.read8 a
  v.2.setReg .a v.1

/-- `MemWrite(a, 1, A)` (R167, R168, R174, R176, R178). -/
def storeATo (a : Word) (s : State) : State := s.write8 a s.cpu.a

/-- `a <- HL; A <- MemRead(a, 1); HL <- trunc16(a ± 1)` (R169, R170). -/
def loadAStep (d : HlStep) (s : State) : State :=
  let v := s.read8 s.hl
  (v.2.setReg .a v.1).setHl (d.apply s.hl)

/-- `a <- HL; MemWrite(a, 1, A); HL <- trunc16(a ± 1)` (R171, R172). -/
def storeAStep (d : HlStep) (s : State) : State := (s.write8 s.hl s.cpu.a).setHl (d.apply s.hl)

/-- `rp[p] <- nn` (R179). -/
def loadPairImm (p : Pair) (w : Word) (s : State) : State := s.setPair p w

/-- `MemWrite(nn, 2, SP)` (R180). -/
def storeSp (a : Word) (s : State) : State := s.write16 a s.cpu.sp

/-- `SP <- HL` (R181). -/
def loadSpHl (s : State) : State := s.setSp s.hl

/-- `push16(rp2[p])` (R182). -/
def pushPair (p : StackPair) (s : State) : State := s.push16 (s.getStackPair p)

/-- `rp2[p] <- pop16()` (R183, R184). -/
def popPair (p : StackPair) (s : State) : State :=
  let v := s.pop16
  v.2.setStackPair p v.1

/-! ## The meanings -/

/-- `LD BC,d16`, opcode 01 (R179). -/
def execLdBC_d16 (d16 : Word) (s : State) : Result := finish 12 (loadPairImm .bc d16 s)

/-- `LD (BC),A`, opcode 02 (R167). -/
def execLdMemBC_A (s : State) : Result := finish 8 (storeATo s.bc s)

/-- `LD B,d8`, opcode 06 (R163). -/
def execLdB_d8 (d8 : Byte) (s : State) : Result := finish 8 (loadRegImm .b d8 s)

/-- `LD (a16),SP`, opcode 08 (R180). -/
def execLdMemA16_SP (a16 : Word) (s : State) : Result := finish 20 (storeSp a16 s)

/-- `LD A,(BC)`, opcode 0A (R165). -/
def execLdA_MemBC (s : State) : Result := finish 8 (loadAFrom s.bc s)

/-- `LD C,d8`, opcode 0E (R163). -/
def execLdC_d8 (d8 : Byte) (s : State) : Result := finish 8 (loadRegImm .c d8 s)

/-- `LD DE,d16`, opcode 11 (R179). -/
def execLdDE_d16 (d16 : Word) (s : State) : Result := finish 12 (loadPairImm .de d16 s)

/-- `LD (DE),A`, opcode 12 (R168). -/
def execLdMemDE_A (s : State) : Result := finish 8 (storeATo s.de s)

/-- `LD D,d8`, opcode 16 (R163). -/
def execLdD_d8 (d8 : Byte) (s : State) : Result := finish 8 (loadRegImm .d d8 s)

/-- `LD A,(DE)`, opcode 1A (R166). -/
def execLdA_MemDE (s : State) : Result := finish 8 (loadAFrom s.de s)

/-- `LD E,d8`, opcode 1E (R163). -/
def execLdE_d8 (d8 : Byte) (s : State) : Result := finish 8 (loadRegImm .e d8 s)

/-- `LD HL,d16`, opcode 21 (R179). -/
def execLdHL_d16 (d16 : Word) (s : State) : Result := finish 12 (loadPairImm .hl d16 s)

/-- `LD (HL+),A`, opcode 22 (R171). -/
def execLdMemHLI_A (s : State) : Result := finish 8 (storeAStep .up s)

/-- `LD H,d8`, opcode 26 (R163). -/
def execLdH_d8 (d8 : Byte) (s : State) : Result := finish 8 (loadRegImm .h d8 s)

/-- `LD A,(HL+)`, opcode 2A (R169). -/
def execLdA_MemHLI (s : State) : Result := finish 8 (loadAStep .up s)

/-- `LD L,d8`, opcode 2E (R163). -/
def execLdL_d8 (d8 : Byte) (s : State) : Result := finish 8 (loadRegImm .l d8 s)

/-- `LD SP,d16`, opcode 31 (R179). -/
def execLdSP_d16 (d16 : Word) (s : State) : Result := finish 12 (loadPairImm .sp d16 s)

/-- `LD (HL-),A`, opcode 32 (R172). -/
def execLdMemHLD_A (s : State) : Result := finish 8 (storeAStep .down s)

/-- `LD (HL),d8`, opcode 36 (R164). -/
def execLdMemHL_d8 (d8 : Byte) (s : State) : Result := finish 12 (loadMemImm d8 s)

/-- `LD A,(HL-)`, opcode 3A (R170). -/
def execLdA_MemHLD (s : State) : Result := finish 8 (loadAStep .down s)

/-- `LD A,d8`, opcode 3E (R163). -/
def execLdA_d8 (d8 : Byte) (s : State) : Result := finish 8 (loadRegImm .a d8 s)

/-- `LD B,B`, opcode 40 (R160). -/
def execLdB_B (s : State) : Result := finish 4 (loadRegReg .b .b s)

/-- `LD B,C`, opcode 41 (R160). -/
def execLdB_C (s : State) : Result := finish 4 (loadRegReg .b .c s)

/-- `LD B,D`, opcode 42 (R160). -/
def execLdB_D (s : State) : Result := finish 4 (loadRegReg .b .d s)

/-- `LD B,E`, opcode 43 (R160). -/
def execLdB_E (s : State) : Result := finish 4 (loadRegReg .b .e s)

/-- `LD B,H`, opcode 44 (R160). -/
def execLdB_H (s : State) : Result := finish 4 (loadRegReg .b .h s)

/-- `LD B,L`, opcode 45 (R160). -/
def execLdB_L (s : State) : Result := finish 4 (loadRegReg .b .l s)

/-- `LD B,(HL)`, opcode 46 (R161). -/
def execLdB_MemHL (s : State) : Result := finish 8 (loadRegMem .b s)

/-- `LD B,A`, opcode 47 (R160). -/
def execLdB_A (s : State) : Result := finish 4 (loadRegReg .b .a s)

/-- `LD C,B`, opcode 48 (R160). -/
def execLdC_B (s : State) : Result := finish 4 (loadRegReg .c .b s)

/-- `LD C,C`, opcode 49 (R160). -/
def execLdC_C (s : State) : Result := finish 4 (loadRegReg .c .c s)

/-- `LD C,D`, opcode 4A (R160). -/
def execLdC_D (s : State) : Result := finish 4 (loadRegReg .c .d s)

/-- `LD C,E`, opcode 4B (R160). -/
def execLdC_E (s : State) : Result := finish 4 (loadRegReg .c .e s)

/-- `LD C,H`, opcode 4C (R160). -/
def execLdC_H (s : State) : Result := finish 4 (loadRegReg .c .h s)

/-- `LD C,L`, opcode 4D (R160). -/
def execLdC_L (s : State) : Result := finish 4 (loadRegReg .c .l s)

/-- `LD C,(HL)`, opcode 4E (R161). -/
def execLdC_MemHL (s : State) : Result := finish 8 (loadRegMem .c s)

/-- `LD C,A`, opcode 4F (R160). -/
def execLdC_A (s : State) : Result := finish 4 (loadRegReg .c .a s)

/-- `LD D,B`, opcode 50 (R160). -/
def execLdD_B (s : State) : Result := finish 4 (loadRegReg .d .b s)

/-- `LD D,C`, opcode 51 (R160). -/
def execLdD_C (s : State) : Result := finish 4 (loadRegReg .d .c s)

/-- `LD D,D`, opcode 52 (R160). -/
def execLdD_D (s : State) : Result := finish 4 (loadRegReg .d .d s)

/-- `LD D,E`, opcode 53 (R160). -/
def execLdD_E (s : State) : Result := finish 4 (loadRegReg .d .e s)

/-- `LD D,H`, opcode 54 (R160). -/
def execLdD_H (s : State) : Result := finish 4 (loadRegReg .d .h s)

/-- `LD D,L`, opcode 55 (R160). -/
def execLdD_L (s : State) : Result := finish 4 (loadRegReg .d .l s)

/-- `LD D,(HL)`, opcode 56 (R161). -/
def execLdD_MemHL (s : State) : Result := finish 8 (loadRegMem .d s)

/-- `LD D,A`, opcode 57 (R160). -/
def execLdD_A (s : State) : Result := finish 4 (loadRegReg .d .a s)

/-- `LD E,B`, opcode 58 (R160). -/
def execLdE_B (s : State) : Result := finish 4 (loadRegReg .e .b s)

/-- `LD E,C`, opcode 59 (R160). -/
def execLdE_C (s : State) : Result := finish 4 (loadRegReg .e .c s)

/-- `LD E,D`, opcode 5A (R160). -/
def execLdE_D (s : State) : Result := finish 4 (loadRegReg .e .d s)

/-- `LD E,E`, opcode 5B (R160). -/
def execLdE_E (s : State) : Result := finish 4 (loadRegReg .e .e s)

/-- `LD E,H`, opcode 5C (R160). -/
def execLdE_H (s : State) : Result := finish 4 (loadRegReg .e .h s)

/-- `LD E,L`, opcode 5D (R160). -/
def execLdE_L (s : State) : Result := finish 4 (loadRegReg .e .l s)

/-- `LD E,(HL)`, opcode 5E (R161). -/
def execLdE_MemHL (s : State) : Result := finish 8 (loadRegMem .e s)

/-- `LD E,A`, opcode 5F (R160). -/
def execLdE_A (s : State) : Result := finish 4 (loadRegReg .e .a s)

/-- `LD H,B`, opcode 60 (R160). -/
def execLdH_B (s : State) : Result := finish 4 (loadRegReg .h .b s)

/-- `LD H,C`, opcode 61 (R160). -/
def execLdH_C (s : State) : Result := finish 4 (loadRegReg .h .c s)

/-- `LD H,D`, opcode 62 (R160). -/
def execLdH_D (s : State) : Result := finish 4 (loadRegReg .h .d s)

/-- `LD H,E`, opcode 63 (R160). -/
def execLdH_E (s : State) : Result := finish 4 (loadRegReg .h .e s)

/-- `LD H,H`, opcode 64 (R160). -/
def execLdH_H (s : State) : Result := finish 4 (loadRegReg .h .h s)

/-- `LD H,L`, opcode 65 (R160). -/
def execLdH_L (s : State) : Result := finish 4 (loadRegReg .h .l s)

/-- `LD H,(HL)`, opcode 66 (R161). -/
def execLdH_MemHL (s : State) : Result := finish 8 (loadRegMem .h s)

/-- `LD H,A`, opcode 67 (R160). -/
def execLdH_A (s : State) : Result := finish 4 (loadRegReg .h .a s)

/-- `LD L,B`, opcode 68 (R160). -/
def execLdL_B (s : State) : Result := finish 4 (loadRegReg .l .b s)

/-- `LD L,C`, opcode 69 (R160). -/
def execLdL_C (s : State) : Result := finish 4 (loadRegReg .l .c s)

/-- `LD L,D`, opcode 6A (R160). -/
def execLdL_D (s : State) : Result := finish 4 (loadRegReg .l .d s)

/-- `LD L,E`, opcode 6B (R160). -/
def execLdL_E (s : State) : Result := finish 4 (loadRegReg .l .e s)

/-- `LD L,H`, opcode 6C (R160). -/
def execLdL_H (s : State) : Result := finish 4 (loadRegReg .l .h s)

/-- `LD L,L`, opcode 6D (R160). -/
def execLdL_L (s : State) : Result := finish 4 (loadRegReg .l .l s)

/-- `LD L,(HL)`, opcode 6E (R161). -/
def execLdL_MemHL (s : State) : Result := finish 8 (loadRegMem .l s)

/-- `LD L,A`, opcode 6F (R160). -/
def execLdL_A (s : State) : Result := finish 4 (loadRegReg .l .a s)

/-- `LD (HL),B`, opcode 70 (R162). -/
def execLdMemHL_B (s : State) : Result := finish 8 (loadMemReg .b s)

/-- `LD (HL),C`, opcode 71 (R162). -/
def execLdMemHL_C (s : State) : Result := finish 8 (loadMemReg .c s)

/-- `LD (HL),D`, opcode 72 (R162). -/
def execLdMemHL_D (s : State) : Result := finish 8 (loadMemReg .d s)

/-- `LD (HL),E`, opcode 73 (R162). -/
def execLdMemHL_E (s : State) : Result := finish 8 (loadMemReg .e s)

/-- `LD (HL),H`, opcode 74 (R162). -/
def execLdMemHL_H (s : State) : Result := finish 8 (loadMemReg .h s)

/-- `LD (HL),L`, opcode 75 (R162). -/
def execLdMemHL_L (s : State) : Result := finish 8 (loadMemReg .l s)

/-- `LD (HL),A`, opcode 77 (R162). -/
def execLdMemHL_A (s : State) : Result := finish 8 (loadMemReg .a s)

/-- `LD A,B`, opcode 78 (R160). -/
def execLdA_B (s : State) : Result := finish 4 (loadRegReg .a .b s)

/-- `LD A,C`, opcode 79 (R160). -/
def execLdA_C (s : State) : Result := finish 4 (loadRegReg .a .c s)

/-- `LD A,D`, opcode 7A (R160). -/
def execLdA_D (s : State) : Result := finish 4 (loadRegReg .a .d s)

/-- `LD A,E`, opcode 7B (R160). -/
def execLdA_E (s : State) : Result := finish 4 (loadRegReg .a .e s)

/-- `LD A,H`, opcode 7C (R160). -/
def execLdA_H (s : State) : Result := finish 4 (loadRegReg .a .h s)

/-- `LD A,L`, opcode 7D (R160). -/
def execLdA_L (s : State) : Result := finish 4 (loadRegReg .a .l s)

/-- `LD A,(HL)`, opcode 7E (R161). -/
def execLdA_MemHL (s : State) : Result := finish 8 (loadRegMem .a s)

/-- `LD A,A`, opcode 7F (R160). -/
def execLdA_A (s : State) : Result := finish 4 (loadRegReg .a .a s)

/-- `POP BC`, opcode C1 (R183). -/
def execPopBC (s : State) : Result := finish 12 (popPair .bc s)

/-- `PUSH BC`, opcode C5 (R182). -/
def execPushBC (s : State) : Result := finish 16 (pushPair .bc s)

/-- `POP DE`, opcode D1 (R183). -/
def execPopDE (s : State) : Result := finish 12 (popPair .de s)

/-- `PUSH DE`, opcode D5 (R182). -/
def execPushDE (s : State) : Result := finish 16 (pushPair .de s)

/-- `LDH (a8),A`, opcode E0 (R176). -/
def execLdhMemA8_A (a8 : Byte) (s : State) : Result := finish 12 (storeATo (highPage a8) s)

/-- `POP HL`, opcode E1 (R183). -/
def execPopHL (s : State) : Result := finish 12 (popPair .hl s)

/-- `LD (C),A`, opcode E2 (R178). -/
def execLdMemC_A (s : State) : Result := finish 8 (storeATo (highPage s.cpu.c) s)

/-- `PUSH HL`, opcode E5 (R182). -/
def execPushHL (s : State) : Result := finish 16 (pushPair .hl s)

/-- `LD (a16),A`, opcode EA (R174). -/
def execLdMemA16_A (a16 : Word) (s : State) : Result := finish 16 (storeATo a16 s)

/-- `LDH A,(a8)`, opcode F0 (R175). -/
def execLdhA_MemA8 (a8 : Byte) (s : State) : Result := finish 12 (loadAFrom (highPage a8) s)

/-- `POP AF`, opcode F1 (R184). -/
def execPopAF (s : State) : Result := finish 12 (popPair .af s)

/-- `LD A,(C)`, opcode F2 (R177). -/
def execLdA_MemC (s : State) : Result := finish 8 (loadAFrom (highPage s.cpu.c) s)

/-- `PUSH AF`, opcode F5 (R182). -/
def execPushAF (s : State) : Result := finish 16 (pushPair .af s)

/-- `LD SP,HL`, opcode F9 (R181). -/
def execLdSP_HL (s : State) : Result := finish 8 (loadSpHl s)

/-- `LD A,(a16)`, opcode FA (R173). -/
def execLdA_MemA16 (a16 : Word) (s : State) : Result := finish 16 (loadAFrom a16 s)

end Sys2Proof.Machine
end

