-- ==== Sys2Proof/Machine/Step.lean ====
section
/-! DEFINITION. The machine's step and the placing of an instruction for it; the parts are in Machine/Ops.lean. -/

namespace Sys2Proof.Machine

/-- One system step: the CPU's step (an instruction, an interrupt entry or a waiting step), the IME tick, then the device
updates (40_step_engine.md R140, R141). -/
def step (s : State) : Host.Outcome State Fault Refusal := s.systemStep exec

/-- The state with an instruction of the opcode table stored where the next step fetches it (log entry 7). -/
def State.withFetchWord (s : State) (nbits w : Nat) : State := s.placeInstr (tableBytes nbits (w % 2 ^ nbits))

end Sys2Proof.Machine
end

