-- ==== Sys2Proof/Machine/HostCalls.lean ====
section
/-! DEFINITION. The host's `advance` call (40_step_engine.md R142). The other calls of the host surface (60_exceptions.md
R491) stand with their devices: `State.construct`, `State.setButton`, `Joypad.pressed`, `State.drainSerial`, and the
framebuffer is the field `ppu.fb`. Every call falls between two system steps. -/

namespace Sys2Proof.Machine

/-- `while budget > 0: budget <- budget - (cycles of one system step)` (R142). Every step costs at least one cycle, so as
many rounds as the budget has cycles, a part of a cycle counted whole, are enough. -/
def State.spendBudget (s : State) : Nat → Result
  | 0 => .next s
  | fuel + 1 =>
    if 0 < s.budget then
      match step s with
      | .next t => { t with budget := t.budget - t.cycles }.spendBudget fuel
      | .fault r => .fault r
      | .refused r => .refused r
    else .next s

/-- `advance(delta_seconds)`: `budget <- budget + delta_seconds * CLOCK_RATE`, unrounded, then the loop; the remainder stays
in `budget` (R142). The host's time is a rational number of seconds (log entry 8). -/
def State.advance (s : State) (deltaSeconds : Rat) : Result :=
  let t := { s with budget := s.budget + deltaSeconds * s.params.clockRate }
  t.spendBudget t.budget.ceil.toNat

end Sys2Proof.Machine
end

