-- ==== Sys2Proof/Safety.lean ====
section
/-! DEFINITION. The terms the claims use: the operand indices of an encoding, what an instruction leaves unchanged, what
it stores, the invariant of the machine, and a run that never stops. -/

namespace Sys2Proof

/-- The index that selects a register (30_encoding.md R116). -/
def Reg8.index : Reg8 → Nat
  | .b => 0
  | .c => 1
  | .d => 2
  | .e => 3
  | .h => 4
  | .l => 5
  | .a => 7

/-- The index of a pair in `rp` (R117). -/
def Pair.index : Pair → Nat
  | .bc => 0
  | .de => 1
  | .hl => 2
  | .sp => 3

/-- The index of a pair in `rp2` (R117). -/
def StackPair.index : StackPair → Nat
  | .bc => 0
  | .de => 1
  | .hl => 2
  | .af => 3

/-- The index of a condition (R118). -/
def Cond.index : Cond → Nat
  | .nz => 0
  | .z => 1
  | .nc => 2
  | .c => 3

/-- The index of an ALU operation (R119). -/
def AluOp.index : AluOp → Nat
  | .add => 0
  | .adc => 1
  | .sub => 2
  | .sbc => 3
  | .and => 4
  | .xor => 5
  | .or => 6
  | .cp => 7

/-- The index of a CB rotate or shift (R120). -/
def ShiftOp.index : ShiftOp → Nat
  | .rlc => 0
  | .rrc => 1
  | .rl => 2
  | .rr => 3
  | .sla => 4
  | .sra => 5
  | .swap => 6
  | .srl => 7

/-- An opcode byte written as a sum of its fields. -/
def opByte (n : Nat) : Byte := BitVec.ofNat 8 n

/-- The 8-bit registers that hold a pair (10_state.md R22). -/
def Pair.regs : Pair → List Reg8
  | .bc => [.b, .c]
  | .de => [.d, .e]
  | .hl => [.h, .l]
  | .sp => []

/-- The 8-bit registers that hold a stack pair; AF's F is not an indexed register (R22). -/
def StackPair.regs : StackPair → List Reg8
  | .bc => [.b, .c]
  | .de => [.d, .e]
  | .hl => [.h, .l]
  | .af => [.a]

namespace Machine

/-! ## Operand forms gathered for a statement -/

/-- The 8-bit ALU instruction with this operand: 72 constructors (42_alu8.md R203..R226). -/
def aluInstr (op : AluOp) : Source → Instr
  | .reg r => Instr.aluReg op r
  | .memHL => Instr.aluMem op
  | .imm v => Instr.aluImm op v

/-- The INC of an 8-bit operand: 8 constructors (R227, R228). -/
def incInstr : Place → Instr
  | .reg r => Instr.incReg r
  | .memHL => .incMemHL

/-- The DEC of an 8-bit operand: 8 constructors (R229, R230). -/
def decInstr : Place → Instr
  | .reg r => Instr.decReg r
  | .memHL => .decMemHL

/-- The CB rotate or shift of an operand: 64 constructors (44_rotate_shift.md R275..R290). -/
def shiftInstr (o : ShiftOp) : Place → Instr
  | .reg r => Instr.shiftReg o r
  | .memHL => Instr.shiftMem o

/-- BIT of an operand: 64 constructors (45_bit_ops.md R300, R301). -/
def bitInstr (n : Fin 8) : Place → Instr
  | .reg r => Instr.bitReg n r
  | .memHL => Instr.bitMem n

/-- RES of an operand: 64 constructors (R302, R303). -/
def resInstr (n : Fin 8) : Place → Instr
  | .reg r => Instr.resReg n r
  | .memHL => Instr.resMem n

/-- SET of an operand: 64 constructors (R304, R305). -/
def setInstr (n : Fin 8) : Place → Instr
  | .reg r => Instr.setReg n r
  | .memHL => Instr.setMem n

/-- The 3-bit index of an operand: a register's, or 6 for the byte at HL (R116). -/
def Place.index : Place → Nat
  | .reg r => r.index
  | .memHL => 6

/-- The registers an instruction with this destination may change. -/
def Place.regs : Place → List Reg8
  | .reg r => [r]
  | .memHL => []

/-- The byte a source operand has: a register, the byte at HL, or the immediate (R119, R145). -/
def Source.value (s : State) : Source → Byte
  | .reg r => s.getReg r
  | .memHL => s.peek s.hl
  | .imm v => v

/-- The byte an operand has: a register, or the byte at HL (R145). -/
def Place.value (s : State) : Place → Byte
  | .reg r => s.getReg r
  | .memHL => s.peek s.hl

/-- The bytes of an 8-bit ALU instruction: `10 ooo zzz`, `10 ooo 110`, or `11 ooo 110 d8` (42_alu8.md section 2). -/
def aluBytes (op : AluOp) : Source → List Byte
  | .reg r => [opByte (0x80 + 8 * op.index + r.index)]
  | .memHL => [opByte (0x86 + 8 * op.index)]
  | .imm v => [opByte (0xC6 + 8 * op.index), v]

/-- What an 8-bit ALU instruction costs: 4 cycles with a register, else 8 (42_alu8.md section 2). -/
def Source.cost : Source → Nat
  | .reg _ => 4
  | .memHL => 8
  | .imm _ => 8

/-- A cost that depends on the operand: the first with a register, the second with the byte at HL. -/
def Place.cost (reg mem : Nat) : Place → Nat
  | .reg _ => reg
  | .memHL => mem

/-- The addresses an operand reads. -/
def Place.reads (s : State) : Place → List Word
  | .reg _ => []
  | .memHL => [s.hl]

/-- The addresses a source operand reads. -/
def Source.reads (s : State) : Source → List Word
  | .memHL => [s.hl]
  | .reg _ => []
  | .imm _ => []

/-! ## Frames -/

/-- Every 8-bit register but those listed keeps its value. -/
def SameRegs (s t : State) (changed : List Reg8) : Prop := ∀ r, r ∉ changed → t.getReg r = s.getReg r

/-- IME, the two delay counters, halted and stopped keep their values. -/
def SameControl (s t : State) : Prop :=
  t.cpu.ime = s.cpu.ime ∧ t.cpu.imeEnableDelay = s.cpu.imeEnableDelay ∧ t.cpu.imeDisableDelay = s.cpu.imeDisableDelay ∧
  t.cpu.halted = s.cpu.halted ∧ t.cpu.stopped = s.cpu.stopped

/-- Every component outside the CPU but the diagnostic log and the step's cost keeps its value. -/
def SameDevices (s t : State) : Prop :=
  t.irq = s.irq ∧ t.timer = s.timer ∧ t.ppu = s.ppu ∧ t.dma = s.dma ∧ t.joypad = s.joypad ∧ t.serial = s.serial ∧
  t.cart = s.cart ∧ t.mem = s.mem ∧ t.budget = s.budget ∧ t.params = s.params

/-- Every address reads as before. -/
def SameBytes (s t : State) : Prop := ∀ a, t.peek a = s.peek a

/-- The diagnostic log grew by the events of accesses to these addresses, in order (60_exceptions.md R490). -/
def Logged (s t : State) (accesses : List Word) : Prop := t.diag = s.diag ++ accesses.filterMap accessDiag

/-- What an instruction that stores nothing leaves alone: the registers not listed, IME and the waiting states, every
component outside the CPU, every byte; the log gains the events of its data reads. -/
def ReadFrame (s t : State) (changed : List Reg8) (reads : List Word) : Prop :=
  SameRegs s t changed ∧ SameControl s t ∧ SameDevices s t ∧ SameBytes s t ∧ Logged s t reads

/-- The addresses b that may read differently after a byte is written to address a (20_memory.md R61): those that name
the same storage cell; the ROM and RAM windows after a mapper register write (R80..R83); SC and IF after a write to SC
(60_exceptions.md R481); the register itself after any other I/O write; none where the write is dropped. -/
def State.Touches (s : State) (a b : Word) : Prop :=
  match target a with
  | .rom _ => b.toNat < 0x8000 ∨ (0xA000 ≤ b.toNat ∧ b.toNat < 0xC000)
  | .vram _ | .cartRam _ | .wram _ | .echo _ | .oam _ | .hram _ => ∃ k, s.cellOf a = some k ∧ s.cellOf b = some k
  | .serialControl => b = 0xFF02 ∨ b = 0xFF0F
  | .joypad | .serialData | .timer _ | .intFlag | .ppu _ | .dma | .intEnable => b = a
  | .prohibited | .audio | .unmapped => False

/-- The effect, outside the CPU, of one `write8(a, v)` after the data reads listed: the components are those that the bus
write leaves; where a names a storage cell, every address of that cell reads v; every address that a write to a does not
touch reads as before. -/
def StoresByte (s t : State) (reads : List Word) (a : Word) (v : Byte) : Prop :=
  SameDevices (s.write8 a v) t ∧ Logged s t (reads ++ [a]) ∧
  (∀ k b, s.cellOf a = some k → s.cellOf b = some k → t.peek b = v) ∧
  (∀ b, ¬ s.Touches a b → t.peek b = s.peek b)

/-- The effect, outside the CPU, of `MemWrite(a, 2, v)`: the low byte at a, then the high byte at a + 1 (00_scope.md R10).
Where the two addresses name two storage cells, those read as v's bytes; every address that neither write touches reads as
before. -/
def StoresWord (s t : State) (a v : Word) : Prop :=
  SameDevices ((s.write8 a (loByte v)).write8 (a + 1) (hiByte v)) t ∧ Logged s t [a, a + 1] ∧
  (∀ j k b, s.cellOf a = some j → s.cellOf (a + 1) = some k → j ≠ k →
    (s.cellOf b = some j → t.peek b = loByte v) ∧ (s.cellOf b = some k → t.peek b = hiByte v)) ∧
  (∀ b, ¬ s.Touches a b → ¬ (s.write8 a (loByte v)).Touches (a + 1) b → t.peek b = s.peek b)

/-- What an instruction that writes this operand and nothing else does to the machine: the register, or one read and one
write of the byte at HL. -/
def WritesPlace (s t : State) (p : Place) (v : Byte) : Prop :=
  match p with
  | .reg r => t.getReg r = v ∧ ReadFrame s t [r] []
  | .memHL => StoresByte s t [s.hl] s.hl v ∧ SameRegs s t [] ∧ SameControl s t

/-- F, PC and SP keep their values. -/
def SameFPcSp (s t : State) : Prop := t.cpu.f = s.cpu.f ∧ t.cpu.pc = s.cpu.pc ∧ t.cpu.sp = s.cpu.sp

/-- PC and SP keep their values; F holds these four flags, bits 3..0 zero (10_state.md R21). -/
def SetsFlags (s t : State) (z n h c : Bool) : Prop :=
  t.flags = { z := z, n := n, h := h, c := c } ∧ t.cpu.f &&& 0x0F = 0 ∧ t.cpu.pc = s.cpu.pc ∧ t.cpu.sp = s.cpu.sp

/-! ## Running -/

/-- The state once n bytes have been fetched at PC: one bus read each, PC past them (00_scope.md R11). -/
def State.fetched (s : State) (n : Nat) : State :=
  ((List.range n).foldl (fun u k => u.noteAccess (s.cpu.pc + BitVec.ofNat 16 k)) s).setPc (s.cpu.pc + BitVec.ofNat 16 n)

/-- The next step executes an instruction: the CPU is neither stopped nor halted, and no interrupt is both pending and
enabled by IME (40_step_engine.md R140). -/
def State.Runs (s : State) : Prop :=
  s.cpu.stopped = false ∧ s.cpu.halted = false ∧ (s.nextTriggered = none ∨ s.cpu.ime = false)

/-- The pixel that entry k puts at column x of line ly, if its span reaches x and its colour there is not transparent
(60_exceptions.md R455). -/
def State.spriteAt (s : State) (ly x k : Nat) : Option Shade :=
  let col : Int := (x : Int) - ((s.oam (4 * k + 1)).toNat - 8)
  if 0 ≤ col ∧ col ≤ 7 then s.spritePixel ly k col.toNat else none

/-- n system steps, one after another. -/
def runSteps : Nat → State → Result
  | 0, s => .next s
  | n + 1, s =>
    match step s with
    | .next t => runSteps n t
    | .fault r => .fault r
    | .refused r => .refused r

/-- What n system steps cost together. -/
def runCost : Nat → State → Nat
  | 0, _ => 0
  | n + 1, s =>
    match step s with
    | .next t => t.cycles + runCost n t
    | .fault _ => 0
    | .refused _ => 0

/-! ## The invariant -/

/-- Byte storage is in canonical form. -/
def State.StorageCanonical (s : State) : Prop := Memory.wf s.mem ∧ Memory.wf s.cart.rom

/-- Bits 3..0 of F are zero (10_state.md R21) and a pending delay is a positive count (R26). -/
def State.CpuLegal (s : State) : Prop :=
  s.cpu.f &&& 0x0F = 0 ∧ (∀ n, s.cpu.imeEnableDelay = some n → 0 < n) ∧ (∀ n, s.cpu.imeDisableDelay = some n → 0 < n)

/-- LY is 0..153, the PPU is in VBlank exactly on lines 144..153, and less than a period has accumulated (R441, R444). -/
def State.PpuLegal (s : State) : Prop :=
  s.ppu.ly.toNat ≤ 153 ∧ (s.ppu.mode = .vBlank ↔ 144 ≤ s.ppu.ly.toNat) ∧ s.ppu.clock < s.ppu.mode.period

/-- The timer's accumulators hold less than their longest periods (R29, R432). -/
def State.TimerLegal (s : State) : Prop := s.timer.divAcc < 256 ∧ s.timer.timaAcc < 1024

/-- A DMA's counter is below 640, and 0 when no DMA is pending (R37, R71). -/
def State.DmaLegal (s : State) : Prop := s.dma.counter < 640 ∧ (s.dma.pending = false → s.dma.counter = 0)

/-- SC holds bits 7 and 0 only, and never both at rest: such a transfer has completed (R39, R481). -/
def State.SerialLegal (s : State) : Prop := s.serial.sc &&& 0x7E = 0 ∧ s.serial.sc ≠ 0x81

/-- An MBC1's low bank field is never 0 (R36, R82). -/
def State.CartLegal (s : State) : Prop := ∀ m, s.cart.mapper = .mbc1 m → m.romBankLow ≠ 0

/-- EI_DELAY and DI_DELAY are positive counts, as a scheduled delay is (10_state.md R26). -/
def Params.Legal (p : Config.Params) : Prop := 0 < p.eiDelay ∧ 0 < p.diDelay

/-- The machine's invariant. -/
structure State.Inv (s : State) : Prop where
  params : Params.Legal s.params
  storage : s.StorageCanonical
  cpu : s.CpuLegal
  ppu : s.PpuLegal
  timer : s.TimerLegal
  dma : s.DmaLegal
  serial : s.SerialLegal
  cart : s.CartLegal

/-! ## The PPU's place in the frame -/

/-- Where a mode begins within a line's 456 cycles (R441). -/
def PpuMode.offset : PpuMode → Nat
  | .oamSearch => 0
  | .transfer => 80
  | .hBlank => 252
  | .vBlank => 0

/-- The cycles from the start of the frame to the PPU's present state: 456 a line, the mode's start in the line, and the
cycles accumulated in the mode. -/
def Ppu.framePosition (p : Ppu) : Nat := 456 * p.ly.toNat + p.mode.offset + p.clock

/-! ## Safe runs -/

/-- The machine goes on from this state: no fault and no refusal (R147). -/
def State.GoesOn (s : State) : Prop := ∃ t, step s = .next t

end Machine

end Sys2Proof
end

