-- ==== Sys2Proof/Certificates/Slice0/Obligations.lean ====
section
/-! DEFINITION. The statements for the provers. A docstring names the rule a statement formalises. `exec i s` is the
meaning of i with PC already past the instruction (00_scope.md R13); `StepRunsTheDecodedInstruction` carries these statements
to a step. A cost is in cycles (40_step_engine.md R146). The rules' costs are the spec's decisions D1 and D2, the wrap of
addresses and of SP its decision D9, the byte order of a push its decision D10; that a step looks first whether the CPU is
stopped its decision D8, the IME tick at the end of every step its decision D3, the order of the device updates its decision
D24. -/

open Sys2Proof Sys2Proof.Machine

/-! ## Encoding -/

/-- Decoding the bytes of a well-formed instruction gives it back, with every operand at every value, and leaves the bytes
that follow (30_encoding.md sections 1 to 5). That STOP has two bytes is the spec's decision D8. -/
def Obligations.DecodeOfEncodeIsTheInstruction : Prop :=
  ∀ (i : Instr) (rest : List Byte), i.WellFormed = true → decode (encode i ++ rest) = .ok (i, rest)

/-- Where the decoder answers an instruction, it is well-formed and its bytes are the ones read; any three bytes or more
start an instruction, of the length that its first byte gives (R110, R126). That STOP has two bytes is the spec's decision
D8; that the decoder never answers the escape's own constructor, the one term that is not well-formed, is the model's
choice (log entry 9). -/
def Obligations.DecodedInstructionIsWellFormedAndItsOwnBytes : Prop :=
  (∀ (bytes : List Byte) (i : Instr) (rest : List Byte), decode bytes = .ok (i, rest) →
    i.WellFormed = true ∧ encode i ++ rest = bytes) ∧
  (∀ (op b1 b2 : Byte) (rest : List Byte), ∃ i,
    decode (op :: b1 :: b2 :: rest) = .ok (i, (op :: b1 :: b2 :: rest).drop (instrLength op)) ∧
    (encode i).length = instrLength op ∧ 1 ≤ instrLength op ∧ instrLength op ≤ 3)

/-- R120: the fields of a CB byte select the operation and the operand, and all 256 CB bytes are defined. -/
def Obligations.CbByteFieldsSelectOperationAndOperand : Prop :=
  (∀ (o : ShiftOp) (p : Place), decode [0xCB, opByte (8 * o.index + p.index)] = .ok (shiftInstr o p, [])) ∧
  (∀ (n : Fin 8) (p : Place), decode [0xCB, opByte (0x40 + 8 * n.val + p.index)] = .ok (bitInstr n p, [])) ∧
  (∀ (n : Fin 8) (p : Place), decode [0xCB, opByte (0x80 + 8 * n.val + p.index)] = .ok (resInstr n p, [])) ∧
  (∀ (n : Fin 8) (p : Place), decode [0xCB, opByte (0xC0 + 8 * n.val + p.index)] = .ok (setInstr n p, [])) ∧
  (∀ cb : Byte, ∃ i, decode [0xCB, cb] = .ok (i, []))

/-- R117, R118, R119: the pair, condition and ALU-operation indices of the base page, and what a condition tests. -/
def Obligations.BasePageFieldsSelectPairsConditionsAndOperations : Prop :=
  (∀ (p : Pair) (w : Word),
    decode [opByte (0x01 + 16 * p.index), loByte w, hiByte w] = .ok (Instr.ldPairImm p w, []) ∧
    decode [opByte (0x03 + 16 * p.index)] = .ok (Instr.incPair p, []) ∧
    decode [opByte (0x0B + 16 * p.index)] = .ok (Instr.decPair p, []) ∧
    decode [opByte (0x09 + 16 * p.index)] = .ok (Instr.addHLPair p, [])) ∧
  (∀ q : StackPair,
    decode [opByte (0xC5 + 16 * q.index)] = .ok (Instr.pushPair q, []) ∧
    decode [opByte (0xC1 + 16 * q.index)] = .ok (Instr.popPair q, [])) ∧
  (∀ (cc : Cond) (e : Byte) (w : Word),
    decode [opByte (0x20 + 8 * cc.index), e] = .ok (Instr.jrCond cc e, []) ∧
    decode [opByte (0xC2 + 8 * cc.index), loByte w, hiByte w] = .ok (Instr.jpCond cc w, []) ∧
    decode [opByte (0xC4 + 8 * cc.index), loByte w, hiByte w] = .ok (Instr.callCond cc w, []) ∧
    decode [opByte (0xC0 + 8 * cc.index)] = .ok (Instr.retCond cc, [])) ∧
  (∀ s : State, (s.cond .nz = true ↔ s.cpu.f.getLsbD 7 = false) ∧ (s.cond .z = true ↔ s.cpu.f.getLsbD 7 = true) ∧
    (s.cond .nc = true ↔ s.cpu.f.getLsbD 4 = false) ∧ (s.cond .c = true ↔ s.cpu.f.getLsbD 4 = true)) ∧
  (∀ (op : AluOp) (src : Source), decode (aluBytes op src) = .ok (aluInstr op src, []))

/-- Words written out bit by bit from the encodings of 41_loads.md to 47_cpu_control.md decode to their instructions. -/
def Obligations.SampleWordsDecode : Prop :=
  decode [0b01000001] = .ok (.ldB_C, []) ∧
  decode [0b01110101] = .ok (.ldMemHL_L, []) ∧
  decode [0b00110110, 0x99] = .ok (.ldMemHL_d8 0x99, []) ∧
  decode [0b11101010, 0x23, 0xC1] = .ok (.ldMemA16_A 0xC123, []) ∧
  decode [0b10011110] = .ok (.sbcA_MemHL, []) ∧
  decode [0b00101001] = .ok (.addHL_HL, []) ∧
  decode [0b00011111] = .ok (.rra, []) ∧
  decode [0b11001011, 0b00110110] = .ok (.swapMemHL, []) ∧
  decode [0b11001011, 0b01111100] = .ok (.bit7_H, []) ∧
  decode [0b11011100, 0x34, 0x12] = .ok (.callC_a16 0x1234, []) ∧
  decode [0b11011001] = .ok (.reti, []) ∧
  decode [0b01110110] = .ok (.halt, []) ∧
  decode [0b11010011] = .ok (.undefD3, [])

/-! ## The step -/

/-- Where the CPU executes, and the bytes at PC are those of a well-formed instruction i, the step is i's meaning, run with
PC past those bytes and their fetches logged, then the IME tick and the device updates by its cycles (40_step_engine.md
R140, R141, R144). That the tick runs on every path is the spec's decision D3, the order of the updates its decision D24,
and that a stopped CPU does not execute its decision D8. -/
def Obligations.StepRunsTheDecodedInstruction : Prop :=
  ∀ (s : State) (i : Instr), s.Runs → i.WellFormed = true →
    (∀ k, k < (encode i).length → s.peek (s.cpu.pc + BitVec.ofNat 16 k) = (encode i).getD k 0) →
    step s = mapNext (fun t => t.tickIme.deviceUpdate t.cycles) (exec i (s.fetched (encode i).length))

/-- Every step keeps the invariant: canonical byte storage; F's low bits zero and delays positive (10_state.md R21, R26);
LY within the frame, VBlank on its ten lines and the PPU's clock within its mode (60_exceptions.md R441); the accumulators
(R432), the DMA counter (20_memory.md R71), SC (R481) and the MBC1 bank field (R82) in their ranges. The timer's periods are
the spec's decision D13, that a write of TAC keeps the accumulator its decision D14, SC's stored bits its decision D30; the
invariant takes the delays of `State.params` as positive (log entries 1 and 12). -/
def Obligations.EveryStepKeepsTheInvariant : Prop :=
  ∀ s t : State, s.Inv → step s = .next t → t.Inv

/-- The state after reset, and every console that is constructed with positive delays, meets the invariant (10_state.md R50,
70_reset_and_hazards.md R500). The reset values are the spec's decisions D25, D26 and D28, the default delays its decision
D4; State.reset's cartridge is the model's choice (log entry 6), as is the field that holds the delays (log entry 1). -/
def Obligations.EveryConstructedConsoleMeetsTheInvariant : Prop :=
  State.reset.Inv ∧ ∀ (params : Config.Params) (ram : Config.InitRam) (image : List Byte) (s : State),
    Params.Legal params → State.construct params ram image = .ok s → s.Inv

/-- The reset values of 10_state.md R50, which are the spec's decisions D21, D25 to D28 and D31, whatever the parameters of
00_scope.md R6;
RAM reads as INIT_RAM, and a location that INIT_RAM does not list as its default. State.reset has the defaults of R6 (the
spec's decisions D4, D7, D27 and D33; log entries 1 to 4). The cartridge, `cycles` and `budget` are left out: R50 gives
them none (log entry 6). -/
def Obligations.ResetGivesTheValuesOfTheResetTable : Prop :=
  (∀ s : State, (s = State.reset ∨ ∃ params ram image, State.construct params ram image = .ok s) →
    (s.cpu.a = 0x01 ∧ s.cpu.f = 0xB0 ∧ s.cpu.b = 0x00 ∧ s.cpu.c = 0x13 ∧ s.cpu.d = 0x00 ∧ s.cpu.e = 0xD8 ∧
      s.cpu.h = 0x01 ∧ s.cpu.l = 0x4D ∧ s.cpu.sp = 0xFFFE ∧ s.cpu.pc = 0x0100) ∧
    (s.cpu.ime = false ∧ s.cpu.imeEnableDelay = none ∧ s.cpu.imeDisableDelay = none ∧ s.cpu.halted = false ∧
      s.cpu.stopped = false) ∧
    (s.irq.flag = 0x01 ∧ s.irq.enable = 0x00) ∧
    (s.timer.div = 0xAB ∧ s.timer.tima = 0 ∧ s.timer.tma = 0 ∧ s.timer.tac = 0 ∧ s.timer.divAcc = 0 ∧ s.timer.timaAcc = 0) ∧
    (s.ppu.lcdc = 0x91 ∧ s.ppu.statBits = 0 ∧ s.ppu.scy = 0 ∧ s.ppu.scx = 0 ∧ s.ppu.ly = 0 ∧ s.ppu.lyc = 0 ∧
      s.ppu.bgp = 0xFC ∧ s.ppu.obp0 = 0xFF ∧ s.ppu.obp1 = 0xFF ∧ s.ppu.wy = 0 ∧ s.ppu.wx = 0 ∧
      s.ppu.mode = .oamSearch ∧ s.ppu.clock = 0 ∧ s.ppu.coincidence = true ∧
      ∀ (y : Fin Config.screenHeight) (x : Fin Config.screenWidth), s.ppu.fb[y][x] = 0) ∧
    (s.dma.source = 0xFF ∧ s.dma.pending = false ∧ s.dma.counter = 0) ∧
    (∀ m, s.cart.mapper = .mbc1 m → m.ramEnable = false ∧ m.romBankLow = 1 ∧ m.bankHigh = 0 ∧ m.mode = .simple) ∧
    ((∀ b, s.joypad.pressed b = false) ∧ s.joypad.selectAction = false ∧ s.joypad.selectDirection = false) ∧
    (s.serial.sb = 0 ∧ s.serial.sc = 0 ∧ s.serial.out = []) ∧
    s.diag = []) ∧
  (∀ (params : Config.Params) (ram : Config.InitRam) (image : List Byte) (s : State),
    State.construct params ram image = .ok s → s.params = params ∧
    (∀ i, i < 0x2000 → s.vram i = ram.vram.getD i 0x00 ∧ Memory.read s.mem (wramCell i) = ram.wram.getD i 0x00) ∧
    (∀ i, i < 160 → s.oam i = ram.oam.getD i 0x00) ∧
    (∀ i, i < 127 → Memory.read s.mem (hramCell i) = ram.hram.getD i 0x00) ∧
    (∀ i, i < s.cart.ramSize → Memory.read s.mem (cramCell i) = ram.cram.getD i 0x00)) ∧
  (State.reset.params = { eiDelay := 2, diDelay := 1, haltWakePcDelta := 1, clockRate := 4194304 } ∧
    ∀ k, Memory.read State.reset.mem k = 0x00)

/-- Construction from an image (20_memory.md R77, R78, 70_reset_and_hazards.md R500): no console for an image shorter than
0x150 bytes, an unsupported mapper byte or an unknown RAM-size code; otherwise the image's bytes, its ROM-size code and
the RAM size of its code. The mapper bytes, the minimum length and code 1 are the spec's decision D28. Which error an image
with several faults gives, the length's before the mapper's before the RAM size's, is the model's choice (log entry 13). -/
def Obligations.ConstructionReadsTheHeader : Prop :=
  ∀ (params : Config.Params) (ram : Config.InitRam) (image : List Byte),
    (image.length < 0x150 → State.construct params ram image = .error .tooShort) ∧
    (0x150 ≤ image.length → ∀ kind code, image[0x147]? = some kind → image[0x149]? = some code →
      (3 < kind.toNat → State.construct params ram image = .error (.unsupportedMapper kind)) ∧
      (kind.toNat ≤ 3 → 5 < code.toNat → State.construct params ram image = .error (.unknownRamSize code)) ∧
      (kind.toNat ≤ 3 → code.toNat ≤ 5 → ∃ s, State.construct params ram image = .ok s ∧
        (s.cart.mapper = if kind = 0 then .romOnly else .mbc1 Mbc1.reset) ∧
        s.cart.romLen = image.length ∧ (∀ i, s.cart.romAt i = image.getD i 0xFF) ∧
        some s.cart.romSizeCode = image[0x148]? ∧
        [0, 0x800, 0x2000, 0x8000, 0x20000, 0x10000][code.toNat]? = some s.cart.ramSize))

/-- From every state the machine takes a step, with no fault and no refusal (40_step_engine.md R147), at a cost that is a
multiple of 4 cycles, from 4 to 24 (R146; the spec's decisions D1 and D2, and D8 for the stopped step's cost). -/
def Obligations.EveryStepGoesOnAtACostOfFourCycleUnits : Prop :=
  ∀ s : State, ∃ t, step s = .next t ∧ t.cycles % 4 = 0 ∧ 4 ≤ t.cycles ∧ t.cycles ≤ 24

/-- `advance` adds delta_seconds × CLOCK_RATE, unrounded, to the budget and takes exactly the system steps that the budget
pays for: k steps, whose costs bring it to 0 or below, no fewer of them doing so; the rest stays in `budget` (R142). So the
steps taken depend only on the total time asked for (the spec's decision D33): two calls take the machine where one call
for both times does. The time is a rational number of seconds (log entry 8). -/
def Obligations.AdvanceSpendsItsBudget : Prop :=
  (∀ (s : State) (deltaSeconds : Rat),
    let budget : Rat := s.budget + deltaSeconds * s.params.clockRate
    ∃ k u, runSteps k s = .next u ∧ s.advance deltaSeconds = .next { u with budget := budget - runCost k s } ∧
      budget - runCost k s ≤ 0 ∧ ∀ j, j < k → (runCost j s : Rat) < budget) ∧
  (∀ (s t : State) (first second : Rat), 0 ≤ second → s.advance first = .next t →
    t.advance second = s.advance (first + second))

/-- No rule reads the diagnostic log, and it only grows: a state that differs from s in its log takes the same step
(10_state.md R40, 60_exceptions.md R490). That the log is a list of events that no rule reads is the spec's decision D31. -/
def Obligations.TheDiagnosticLogIsNeverRead : Prop :=
  ∀ (s t : State) (d : List Diag), step s = .next t →
    ∃ e, t.diag = s.diag ++ e ∧ step { s with diag := d } = .next { t with diag := d ++ e }

/-! ## Loads, stores and stack transfers (41_loads.md) -/

/-- R160. -/
def Obligations.LoadRegisterFromRegister : Prop :=
  ∀ (dst src : Reg8) (s : State),
    encode (Instr.ldRegReg dst src) = [opByte (0x40 + 8 * dst.index + src.index)] ∧
    ∃ t, exec (Instr.ldRegReg dst src) s = .next t ∧ t.cycles = 4 ∧ t.getReg dst = s.getReg src ∧
      SameFPcSp s t ∧ ReadFrame s t [dst] []

/-- R161, R163. -/
def Obligations.LoadRegisterFromMemoryOrImmediate : Prop :=
  (∀ (dst : Reg8) (s : State),
    encode (Instr.ldRegMem dst) = [opByte (0x46 + 8 * dst.index)] ∧
    ∃ t, exec (Instr.ldRegMem dst) s = .next t ∧ t.cycles = 8 ∧ t.getReg dst = s.peek s.hl ∧
      SameFPcSp s t ∧ ReadFrame s t [dst] [s.hl]) ∧
  (∀ (dst : Reg8) (v : Byte) (s : State),
    encode (Instr.ldRegImm dst v) = [opByte (0x06 + 8 * dst.index), v] ∧
    ∃ t, exec (Instr.ldRegImm dst v) s = .next t ∧ t.cycles = 8 ∧ t.getReg dst = v ∧
      SameFPcSp s t ∧ ReadFrame s t [dst] [])

/-- R162, R164. -/
def Obligations.StoreRegisterOrImmediateAtHL : Prop :=
  (∀ (src : Reg8) (s : State),
    encode (Instr.ldMemReg src) = [opByte (0x70 + src.index)] ∧
    ∃ t, exec (Instr.ldMemReg src) s = .next t ∧ t.cycles = 8 ∧ StoresByte s t [] s.hl (s.getReg src) ∧
      SameFPcSp s t ∧ SameRegs s t [] ∧ SameControl s t) ∧
  (∀ (v : Byte) (s : State),
    encode (.ldMemHL_d8 v) = [0x36, v] ∧
    ∃ t, exec (.ldMemHL_d8 v) s = .next t ∧ t.cycles = 12 ∧ StoresByte s t [] s.hl v ∧
      SameFPcSp s t ∧ SameRegs s t [] ∧ SameControl s t)

/-- R165, R166, R169, R170, R173, R175, R177. Each row: the instruction, its bytes, its cost, the address read, HL after,
and the registers that may change. -/
def Obligations.LoadAccumulatorFromMemory : Prop :=
  ∀ (s : State) (n : Byte) (w : Word),
    ∀ r ∈ ([(.ldA_MemBC, [0x0A], 8, s.bc, s.hl, [.a]),
            (.ldA_MemDE, [0x1A], 8, s.de, s.hl, [.a]),
            (.ldA_MemHLI, [0x2A], 8, s.hl, s.hl + 1, [.a, .h, .l]),
            (.ldA_MemHLD, [0x3A], 8, s.hl, s.hl - 1, [.a, .h, .l]),
            (.ldA_MemA16 w, [0xFA, loByte w, hiByte w], 16, w, s.hl, [.a]),
            (.ldhA_MemA8 n, [0xF0, n], 12, 0xFF00 + n.zeroExtend 16, s.hl, [.a]),
            (.ldA_MemC, [0xF2], 8, 0xFF00 + s.cpu.c.zeroExtend 16, s.hl, [.a])] :
            List (Instr × List Byte × Nat × Word × Word × List Reg8)),
      encode r.1 = r.2.1 ∧
      ∃ t, exec r.1 s = .next t ∧ t.cycles = r.2.2.1 ∧ t.cpu.a = s.peek r.2.2.2.1 ∧ t.hl = r.2.2.2.2.1 ∧
        SameFPcSp s t ∧ ReadFrame s t r.2.2.2.2.2 [r.2.2.2.1]

/-- R167, R168, R171, R172, R174, R176, R178. Each row: the instruction, its bytes, its cost, the address A is stored to,
HL after, and the registers that may change. -/
def Obligations.StoreAccumulatorToMemory : Prop :=
  ∀ (s : State) (n : Byte) (w : Word),
    ∀ r ∈ ([(.ldMemBC_A, [0x02], 8, s.bc, s.hl, []),
            (.ldMemDE_A, [0x12], 8, s.de, s.hl, []),
            (.ldMemHLI_A, [0x22], 8, s.hl, s.hl + 1, [.h, .l]),
            (.ldMemHLD_A, [0x32], 8, s.hl, s.hl - 1, [.h, .l]),
            (.ldMemA16_A w, [0xEA, loByte w, hiByte w], 16, w, s.hl, []),
            (.ldhMemA8_A n, [0xE0, n], 12, 0xFF00 + n.zeroExtend 16, s.hl, []),
            (.ldMemC_A, [0xE2], 8, 0xFF00 + s.cpu.c.zeroExtend 16, s.hl, [])] :
            List (Instr × List Byte × Nat × Word × Word × List Reg8)),
      encode r.1 = r.2.1 ∧
      ∃ t, exec r.1 s = .next t ∧ t.cycles = r.2.2.1 ∧ StoresByte s t [] r.2.2.2.1 s.cpu.a ∧ t.hl = r.2.2.2.2.1 ∧
        SameFPcSp s t ∧ SameRegs s t r.2.2.2.2.2 ∧ SameControl s t

/-- R179, R180, R181. -/
def Obligations.SixteenBitLoads : Prop :=
  (∀ (p : Pair) (w : Word) (s : State),
    encode (Instr.ldPairImm p w) = [opByte (0x01 + 16 * p.index), loByte w, hiByte w] ∧
    ∃ t, exec (Instr.ldPairImm p w) s = .next t ∧ t.cycles = 12 ∧ t.getPair p = w ∧ t.cpu.f = s.cpu.f ∧
      t.cpu.pc = s.cpu.pc ∧ (p ≠ .sp → t.cpu.sp = s.cpu.sp) ∧ ReadFrame s t p.regs []) ∧
  (∀ (w : Word) (s : State),
    encode (.ldMemA16_SP w) = [0x08, loByte w, hiByte w] ∧
    ∃ t, exec (.ldMemA16_SP w) s = .next t ∧ t.cycles = 20 ∧ StoresWord s t w s.cpu.sp ∧ SameFPcSp s t ∧
      SameRegs s t [] ∧ SameControl s t) ∧
  (∀ s : State,
    encode .ldSP_HL = [0xF9] ∧
    ∃ t, exec .ldSP_HL s = .next t ∧ t.cycles = 8 ∧ t.cpu.sp = s.hl ∧ t.cpu.f = s.cpu.f ∧ t.cpu.pc = s.cpu.pc ∧
      ReadFrame s t [] [])

/-- R182. -/
def Obligations.PushStoresThePairBelowSP : Prop :=
  ∀ (q : StackPair) (s : State),
    encode (Instr.pushPair q) = [opByte (0xC5 + 16 * q.index)] ∧
    ∃ t, exec (Instr.pushPair q) s = .next t ∧ t.cycles = 16 ∧ t.cpu.sp = s.cpu.sp - 2 ∧
      StoresWord s t (s.cpu.sp - 2) (s.getStackPair q) ∧ t.cpu.f = s.cpu.f ∧ t.cpu.pc = s.cpu.pc ∧
      SameRegs s t [] ∧ SameControl s t

/-- R183, R184: POP AF clears the low nibble of F. -/
def Obligations.PopLoadsThePairAndClearsFLowNibble : Prop :=
  ∀ (q : StackPair) (s : State),
    encode (Instr.popPair q) = [opByte (0xC1 + 16 * q.index)] ∧
    ∃ t, exec (Instr.popPair q) s = .next t ∧ t.cycles = 12 ∧ t.cpu.sp = s.cpu.sp + 2 ∧ t.cpu.pc = s.cpu.pc ∧
      (q ≠ .af → t.getStackPair q = mkWord (s.peek (s.cpu.sp + 1)) (s.peek s.cpu.sp) ∧ t.cpu.f = s.cpu.f) ∧
      (q = .af → t.cpu.a = s.peek (s.cpu.sp + 1) ∧ t.cpu.f = s.peek s.cpu.sp &&& 0xF0) ∧
      ReadFrame s t q.regs [s.cpu.sp, s.cpu.sp + 1]

/-! ## 8-bit arithmetic and logic (42_alu8.md) -/

/-- R200, R203..R208: ADD and ADC. -/
def Obligations.AddAndAdcWriteSumAndFlags : Prop :=
  ∀ (withCarry : Bool) (src : Source) (s : State),
    let op : AluOp := if withCarry then .adc else .add
    let a := s.cpu.a.toNat
    let v := (src.value s).toNat
    let cin := if withCarry && s.cpu.f.getLsbD 4 then 1 else 0
    encode (aluInstr op src) = aluBytes op src ∧
    ∃ t, exec (aluInstr op src) s = .next t ∧ t.cycles = src.cost ∧ t.cpu.a = BitVec.ofNat 8 (a + v + cin) ∧
      SetsFlags s t ((a + v + cin) % 256 = 0) false (0xF < a % 16 + v % 16 + cin) (0xFF < a + v + cin) ∧
      ReadFrame s t [.a] (src.reads s)

/-- R201, R209..R214, R224..R226: SUB, SBC and CP; CP leaves A. -/
def Obligations.SubSbcAndCpWriteDifferenceAndFlags : Prop :=
  ∀ (op : AluOp) (src : Source) (s : State), op ∈ [AluOp.sub, .sbc, .cp] →
    let a : Int := s.cpu.a.toNat
    let v : Int := (src.value s).toNat
    let cin : Int := if op = .sbc ∧ s.cpu.f.getLsbD 4 = true then 1 else 0
    encode (aluInstr op src) = aluBytes op src ∧
    ∃ t, exec (aluInstr op src) s = .next t ∧ t.cycles = src.cost ∧
      (op ≠ .cp → t.cpu.a = BitVec.ofInt 8 (a - v - cin)) ∧
      SetsFlags s t ((a - v - cin) % 256 = 0) true (a % 16 - v % 16 - cin < 0) (a - v - cin < 0) ∧
      ReadFrame s t (if op = .cp then [] else [.a]) (src.reads s)

/-- R202, R215..R223: AND, XOR and OR. -/
def Obligations.AndXorOrWriteResultAndFlags : Prop :=
  ∀ (src : Source) (s : State), ∀ r ∈ [(AluOp.and, s.cpu.a &&& src.value s, true), (.xor, s.cpu.a ^^^ src.value s, false),
      (.or, s.cpu.a ||| src.value s, false)],
    encode (aluInstr r.1 src) = aluBytes r.1 src ∧
    ∃ t, exec (aluInstr r.1 src) s = .next t ∧ t.cycles = src.cost ∧ t.cpu.a = r.2.1 ∧
      SetsFlags s t (r.2.1 = 0) false r.2.2 false ∧ ReadFrame s t [.a] (src.reads s)

/-- R227..R230: INC and DEC of a register or of the byte at HL; C is kept. -/
def Obligations.IncAndDecOfAByte : Prop :=
  ∀ (p : Place) (s : State),
    (encode (incInstr p) = [opByte (0x04 + 8 * p.index)] ∧
     ∃ t, exec (incInstr p) s = .next t ∧ t.cycles = p.cost 4 12 ∧ WritesPlace s t p (p.value s + 1) ∧
       SetsFlags s t (p.value s = 0xFF) false ((p.value s).toNat % 16 = 15) (s.cpu.f.getLsbD 4)) ∧
    (encode (decInstr p) = [opByte (0x05 + 8 * p.index)] ∧
     ∃ t, exec (decInstr p) s = .next t ∧ t.cycles = p.cost 4 12 ∧ WritesPlace s t p (p.value s - 1) ∧
       SetsFlags s t (p.value s = 0x01) true ((p.value s).toNat % 16 = 0) (s.cpu.f.getLsbD 4))

/-- R231..R234: DAA, by the table of R231 over unbounded integers (N kept, H cleared); CPL, SCF and CCF. -/
def Obligations.AccumulatorAdjustAndFlagOperations : Prop :=
  ∀ s : State,
    let a : Int := s.cpu.a.toNat
    let z := s.cpu.f.getLsbD 7
    let n := s.cpu.f.getLsbD 6
    let h := s.cpu.f.getLsbD 5
    let c := s.cpu.f.getLsbD 4
    let a1 : Int := if n then (if c then a - 0x60 else a) else (if c = true ∨ 0x99 < a then a + 0x60 else a)
    let a2 : Int := if n then (if h then a1 - 0x06 else a1) else (if h = true ∨ 9 < a1 % 16 then a1 + 0x06 else a1)
    (encode .daa = [0x27] ∧ ∃ t, exec .daa s = .next t ∧ t.cycles = 4 ∧ t.cpu.a = BitVec.ofInt 8 a2 ∧
      SetsFlags s t (a2 % 256 = 0) n false (if n then c else c = true ∨ 0x99 < a) ∧ ReadFrame s t [.a] []) ∧
    (encode .cpl = [0x2F] ∧ ∃ t, exec .cpl s = .next t ∧ t.cycles = 4 ∧ t.cpu.a = s.cpu.a ^^^ 0xFF ∧
      SetsFlags s t z true true c ∧ ReadFrame s t [.a] []) ∧
    (encode .scf = [0x37] ∧ ∃ t, exec .scf s = .next t ∧ t.cycles = 4 ∧ SetsFlags s t z false false true ∧
      ReadFrame s t [] []) ∧
    (encode .ccf = [0x3F] ∧ ∃ t, exec .ccf s = .next t ∧ t.cycles = 4 ∧ SetsFlags s t z false false (!c) ∧
      ReadFrame s t [] [])

/-! ## 16-bit arithmetic (43_alu16.md) -/

/-- R251, R252, R253: INC and DEC of a pair touch no flag; ADD HL,rr keeps Z. -/
def Obligations.PairIncrementDecrementAndAdd : Prop :=
  ∀ (p : Pair) (s : State),
    (encode (Instr.incPair p) = [opByte (0x03 + 16 * p.index)] ∧
     ∃ t, exec (Instr.incPair p) s = .next t ∧ t.cycles = 8 ∧ t.getPair p = s.getPair p + 1 ∧ t.cpu.f = s.cpu.f ∧
       t.cpu.pc = s.cpu.pc ∧ (p ≠ .sp → t.cpu.sp = s.cpu.sp) ∧ ReadFrame s t p.regs []) ∧
    (encode (Instr.decPair p) = [opByte (0x0B + 16 * p.index)] ∧
     ∃ t, exec (Instr.decPair p) s = .next t ∧ t.cycles = 8 ∧ t.getPair p = s.getPair p - 1 ∧ t.cpu.f = s.cpu.f ∧
       t.cpu.pc = s.cpu.pc ∧ (p ≠ .sp → t.cpu.sp = s.cpu.sp) ∧ ReadFrame s t p.regs []) ∧
    (encode (Instr.addHLPair p) = [opByte (0x09 + 16 * p.index)] ∧
     ∃ t, exec (Instr.addHLPair p) s = .next t ∧ t.cycles = 8 ∧ t.hl = s.hl + s.getPair p ∧
       SetsFlags s t (s.cpu.f.getLsbD 7) false (0x0FFF < s.hl.toNat % 0x1000 + (s.getPair p).toNat % 0x1000)
         (0xFFFF < s.hl.toNat + (s.getPair p).toNat) ∧ ReadFrame s t [.h, .l] [])

/-- R250, R254, R255: the flags come from the unsigned sum of the low bytes. -/
def Obligations.AddSignedByteToSP : Prop :=
  ∀ (e : Byte) (s : State),
    let sum := BitVec.ofInt 16 (s.cpu.sp.toNat + e.toInt)
    let h := decide (0x0F < s.cpu.sp.toNat % 16 + e.toNat % 16)
    let c := decide (0xFF < s.cpu.sp.toNat % 256 + e.toNat)
    (encode (.addSP_e8 e) = [0xE8, e] ∧
     ∃ t, exec (.addSP_e8 e) s = .next t ∧ t.cycles = 16 ∧ t.cpu.sp = sum ∧ t.flags = ⟨false, false, h, c⟩ ∧
       t.cpu.f &&& 0x0F = 0 ∧ t.cpu.pc = s.cpu.pc ∧ ReadFrame s t [] []) ∧
    (encode (.ldHL_SPe8 e) = [0xF8, e] ∧
     ∃ t, exec (.ldHL_SPe8 e) s = .next t ∧ t.cycles = 12 ∧ t.hl = sum ∧ SetsFlags s t false false h c ∧
       ReadFrame s t [.h, .l] [])

/-! ## Rotates and shifts (44_rotate_shift.md) -/

/-- R270..R273: the accumulator rotates clear Z whatever the result. Each row: the instruction, its byte, A after, C
after. -/
def Obligations.AccumulatorRotatesClearZ : Prop :=
  ∀ s : State,
    let a := s.cpu.a.toNat
    let c := if s.cpu.f.getLsbD 4 then 1 else 0
    ∀ r ∈ ([(.rlca, 0x07, 2 * a + a / 128, 128 ≤ a), (.rrca, 0x0F, a / 2 + 128 * (a % 2), a % 2 = 1),
            (.rla, 0x17, 2 * a + c, 128 ≤ a), (.rra, 0x1F, a / 2 + 128 * c, a % 2 = 1)] :
            List (Instr × Byte × Nat × Bool)),
      encode r.1 = [r.2.1] ∧
      ∃ t, exec r.1 s = .next t ∧ t.cycles = 4 ∧ t.cpu.a = BitVec.ofNat 8 r.2.2.1 ∧
        SetsFlags s t false false false r.2.2.2 ∧ ReadFrame s t [.a] []

/-- R275..R282: RLC, RRC, RL and RR of a register or of the byte at HL. Each row: the operation, the result modulo 256,
C after. -/
def Obligations.CbRotates : Prop :=
  ∀ (p : Place) (s : State),
    let v := (p.value s).toNat
    let c := if s.cpu.f.getLsbD 4 then 1 else 0
    ∀ r ∈ ([(.rlc, 2 * v + v / 128, 128 ≤ v), (.rrc, v / 2 + 128 * (v % 2), v % 2 = 1),
            (.rl, 2 * v + c, 128 ≤ v), (.rr, v / 2 + 128 * c, v % 2 = 1)] : List (ShiftOp × Nat × Bool)),
      encode (shiftInstr r.1 p) = [0xCB, opByte (8 * r.1.index + p.index)] ∧
      ∃ t, exec (shiftInstr r.1 p) s = .next t ∧ t.cycles = p.cost 8 16 ∧ WritesPlace s t p (BitVec.ofNat 8 r.2.1) ∧
        SetsFlags s t (r.2.1 % 256 = 0) false false r.2.2

/-- R283..R290: SLA, SRA, SWAP and SRL of a register or of the byte at HL. Each row: the operation, the result modulo 256,
C after. -/
def Obligations.CbShiftsAndSwap : Prop :=
  ∀ (p : Place) (s : State),
    let v := (p.value s).toNat
    ∀ r ∈ ([(.sla, 2 * v, 128 ≤ v), (.sra, v / 2 + 128 * (v / 128), v % 2 = 1),
            (.swap, 16 * (v % 16) + v / 16, false), (.srl, v / 2, v % 2 = 1)] : List (ShiftOp × Nat × Bool)),
      encode (shiftInstr r.1 p) = [0xCB, opByte (8 * r.1.index + p.index)] ∧
      ∃ t, exec (shiftInstr r.1 p) s = .next t ∧ t.cycles = p.cost 8 16 ∧ WritesPlace s t p (BitVec.ofNat 8 r.2.1) ∧
        SetsFlags s t (r.2.1 % 256 = 0) false false r.2.2

/-! ## Single bits (45_bit_ops.md) -/

/-- R300, R301: BIT reads its operand once, writes none, and keeps C. -/
def Obligations.BitTestsOneBit : Prop :=
  ∀ (n : Fin 8) (p : Place) (s : State),
    encode (bitInstr n p) = [0xCB, opByte (0x40 + 8 * n.val + p.index)] ∧
    ∃ t, exec (bitInstr n p) s = .next t ∧ t.cycles = p.cost 8 12 ∧
      SetsFlags s t (!(p.value s).getLsbD n.val) false true (s.cpu.f.getLsbD 4) ∧ ReadFrame s t [] (p.reads s)

/-- R302..R305: RES and SET write one bit and no flag; the byte at HL is written even when the bit does not change. -/
def Obligations.ResAndSetWriteOneBit : Prop :=
  ∀ (n : Fin 8) (p : Place) (s : State),
    (encode (resInstr n p) = [0xCB, opByte (0x80 + 8 * n.val + p.index)] ∧
     ∃ t, exec (resInstr n p) s = .next t ∧ t.cycles = p.cost 8 16 ∧
       WritesPlace s t p (p.value s &&& ~~~((1 : Byte) <<< n.val)) ∧ SameFPcSp s t) ∧
    (encode (setInstr n p) = [0xCB, opByte (0xC0 + 8 * n.val + p.index)] ∧
     ∃ t, exec (setInstr n p) s = .next t ∧ t.cycles = p.cost 8 16 ∧
       WritesPlace s t p (p.value s ||| (1 : Byte) <<< n.val) ∧ SameFPcSp s t)

/-! ## Jumps, calls and returns (46_control.md) -/

/-- R321..R325. PC in s is the address of the byte after the instruction. -/
def Obligations.JumpsSetPC : Prop :=
  ∀ (s : State) (cc : Cond) (w : Word) (e : Byte),
    let near := BitVec.ofInt 16 (s.cpu.pc.toNat + e.toInt)
    ∀ r ∈ ([(.jpA16 w, [0xC3, loByte w, hiByte w], 16, w),
            (Instr.jpCond cc w, [opByte (0xC2 + 8 * cc.index), loByte w, hiByte w], if s.cond cc then 16 else 12,
              if s.cond cc then w else s.cpu.pc),
            (.jpHL, [0xE9], 4, s.hl),
            (.jrE8 e, [0x18, e], 12, near),
            (Instr.jrCond cc e, [opByte (0x20 + 8 * cc.index), e], if s.cond cc then 12 else 8,
              if s.cond cc then near else s.cpu.pc)] : List (Instr × List Byte × Nat × Word)),
      encode r.1 = r.2.1 ∧
      ∃ t, exec r.1 s = .next t ∧ t.cycles = r.2.2.1 ∧ t.cpu.pc = r.2.2.2 ∧ t.cpu.f = s.cpu.f ∧
        t.cpu.sp = s.cpu.sp ∧ ReadFrame s t [] []

/-- R326, R327, R331: CALL, CALL cc and RST push the address after the instruction; a call not taken only goes on. -/
def Obligations.CallsAndRestartsPushThePC : Prop :=
  (∀ (s : State) (cc : Cond) (w : Word) (y : Fin 8),
    ∀ r ∈ ([(.callA16 w, [0xCD, loByte w, hiByte w], 24, w),
            (Instr.rst y, [opByte (0xC7 + 8 * y.val)], 16, BitVec.ofNat 16 (8 * y.val))] ++
            (if s.cond cc then
              [(Instr.callCond cc w, [opByte (0xC4 + 8 * cc.index), loByte w, hiByte w], 24, w)] else []) :
            List (Instr × List Byte × Nat × Word)),
      encode r.1 = r.2.1 ∧
      ∃ t, exec r.1 s = .next t ∧ t.cycles = r.2.2.1 ∧ t.cpu.pc = r.2.2.2 ∧ t.cpu.sp = s.cpu.sp - 2 ∧
        StoresWord s t (s.cpu.sp - 2) s.cpu.pc ∧ t.cpu.f = s.cpu.f ∧ SameRegs s t [] ∧ SameControl s t) ∧
  (∀ (s : State) (cc : Cond) (w : Word), s.cond cc = false →
    encode (Instr.callCond cc w) = [opByte (0xC4 + 8 * cc.index), loByte w, hiByte w] ∧
    exec (Instr.callCond cc w) s = .next { s with cycles := 12 })

/-- R328, R329: RET and RET cc; a return not taken reads nothing and only goes on. -/
def Obligations.ReturnsPopThePC : Prop :=
  ∀ s : State,
    let back := mkWord (s.peek (s.cpu.sp + 1)) (s.peek s.cpu.sp)
    let reads := [s.cpu.sp, s.cpu.sp + 1]
    (encode .ret = [0xC9] ∧
     ∃ t, exec .ret s = .next t ∧ t.cycles = 16 ∧ t.cpu.pc = back ∧ t.cpu.sp = s.cpu.sp + 2 ∧ t.cpu.f = s.cpu.f ∧
       ReadFrame s t [] reads) ∧
    (∀ cc : Cond, encode (Instr.retCond cc) = [opByte (0xC0 + 8 * cc.index)] ∧
      (s.cond cc = true → ∃ t, exec (Instr.retCond cc) s = .next t ∧ t.cycles = 20 ∧ t.cpu.pc = back ∧
        t.cpu.sp = s.cpu.sp + 2 ∧ t.cpu.f = s.cpu.f ∧ ReadFrame s t [] reads) ∧
      (s.cond cc = false → exec (Instr.retCond cc) s = .next { s with cycles := 8 }))

/-- RETI pops PC and sets IME at once (R330). That it leaves the two delay counters alone is the spec's decision D5. -/
def Obligations.RetiReturnsAndSetsIME : Prop :=
  encode .reti = [0xD9] ∧
  ∀ s : State, ∃ t, exec .reti s = .next t ∧ t.cycles = 16 ∧
    t.cpu.pc = mkWord (s.peek (s.cpu.sp + 1)) (s.peek s.cpu.sp) ∧ t.cpu.sp = s.cpu.sp + 2 ∧ t.cpu.ime = true ∧
    t.cpu.imeEnableDelay = s.cpu.imeEnableDelay ∧ t.cpu.imeDisableDelay = s.cpu.imeDisableDelay ∧
    t.cpu.halted = s.cpu.halted ∧ t.cpu.stopped = s.cpu.stopped ∧ t.cpu.f = s.cpu.f ∧ SameRegs s t [] ∧
    SameDevices s t ∧ SameBytes s t ∧ Logged s t [s.cpu.sp, s.cpu.sp + 1]

/-- A RET run in the state a taken CALL or an RST left comes back to the instruction after it, with SP and every register as
before, wherever the two stack bytes are plain storage; and a RETI run in the state an interrupt's entry left comes back to
the instruction it interrupted, with IME on again, halted cleared and the rest of the CPU as before (R326 to R331, R410,
R416). That RETI sets IME at once and leaves both delay counters alone is the spec's decision D5 (R330, R406), that the entry
leaves them alone its decision D6 (R406, R415), the byte order of the push and the pop its decision D10. -/
def Obligations.ReturnUndoesCallAndInterruptEntry : Prop :=
  (∀ (s t : State) (i : Instr) (j k : Nat), (i ∈ [Instr.rst 0, .rst 1, .rst 2, .rst 3, .rst 4, .rst 5, .rst 6, .rst 7] ∨
      (∃ w, i = .callA16 w) ∨ ∃ cc w, s.cond cc = true ∧ i = Instr.callCond cc w) →
    s.cellOf (s.cpu.sp - 2) = some j → s.cellOf (s.cpu.sp - 1) = some k → j ≠ k → exec i s = .next t →
    ∃ u, exec .ret t = .next u ∧ u.cpu = s.cpu) ∧
  (∀ (s : State) (i : IrqSource) (j k : Nat), s.cpu.stopped = false → s.cpu.ime = true → s.nextTriggered = some i →
    s.cellOf (s.cpu.sp - 2) = some j → s.cellOf (s.cpu.sp - 1) = some k → j ≠ k →
    ∃ t u, s.stepBranch exec = .next t ∧ t.cpu.pc = BitVec.ofNat 16 (0x40 + 8 * i.index) ∧ exec .reti t = .next u ∧
      u.cpu = { s.cpu with halted := false })

/-! ## CPU control (47_cpu_control.md) -/

/-- NOP, HALT, STOP, DI and EI (R350..R354): each changes what it names and nothing else. STOP's second byte and its
waiting state are the spec's decision D8; the delays are its parameters EI_DELAY and DI_DELAY (R6, decision D4; log entry
1). -/
def Obligations.CpuControlInstructions : Prop :=
  ∀ (s : State) (b : Byte),
    (encode .nop = [0x00] ∧ exec .nop s = .next { s with cycles := 4 }) ∧
    (encode .halt = [0x76] ∧ exec .halt s = .next { s with cpu := { s.cpu with halted := true }, cycles := 4 }) ∧
    (encode (.stop b) = [0x10, b] ∧
      exec (.stop b) s = .next { s with cpu := { s.cpu with stopped := true }, cycles := 4 }) ∧
    (encode .di = [0xF3] ∧
      exec .di s = .next { s with cpu := { s.cpu with imeDisableDelay := some s.params.diDelay }, cycles := 4 }) ∧
    (encode .ei = [0xFB] ∧
      exec .ei s = .next { s with cpu := { s.cpu with imeEnableDelay := some s.params.eiDelay }, cycles := 4 })

/-- R125, R356: the eleven undefined opcodes are one-byte, 4-cycle no-ops with a diagnostic. -/
def Obligations.UndefinedOpcodesAreNoOpsWithADiagnostic : Prop :=
  (List.finRange 11).map Instr.undefinedByte = [0xD3, 0xDB, 0xDD, 0xE3, 0xE4, 0xEB, 0xEC, 0xED, 0xF4, 0xFC, 0xFD] ∧
  ∀ (k : Fin 11) (s : State),
    encode (Instr.undefinedOp k) = [Instr.undefinedByte k] ∧
    exec (Instr.undefinedOp k) s =
      .next { s with diag := s.diag ++ [.unknownOpcode (Instr.undefinedByte k)], cycles := 4 }

/-- R355: the escape runs the CB row of its second byte, at that row's cost. -/
def Obligations.PrefixRunsTheCbRow : Prop :=
  ∀ (cb : Byte) (s : State), encode (.prefixCb cb) = [0xCB, cb] ∧
    ∃ i t, decode [0xCB, cb] = .ok (i, []) ∧ exec i s = .next t ∧ exec (.prefixCb cb) s = .next t ∧
      t.cycles ∈ [8, 12, 16]

/-! ## Interrupts and waiting (60_exceptions.md sections 1 to 4) -/

/-- R402: the source selected is the pending one of the lowest index, and IE's bits 7..5 make none pending. -/
def Obligations.LowestPendingIndexIsSelected : Prop :=
  ∀ s : State,
    (∀ i : IrqSource, s.nextTriggered = some i ↔
      (s.irq.enable.getLsbD i.index = true ∧ s.irq.flag.getLsbD i.index = true ∧
        ∀ j : IrqSource, j.index < i.index → ¬ (s.irq.enable.getLsbD j.index = true ∧ s.irq.flag.getLsbD j.index = true))) ∧
    (s.nextTriggered = none ↔
      ∀ j : IrqSource, ¬ (s.irq.enable.getLsbD j.index = true ∧ s.irq.flag.getLsbD j.index = true))

/-- Taking an interrupt clears its flag and IME, pushes PC, goes to the handler at 0x40 + 8 × index, and costs 16 cycles, or
20 from HALT (R410). The push's writes come after the clears, in the state u. That the delay counters stay as they are is
the spec's decision D6 (R406, R415), the byte order of the push its decision D10, that a stopped CPU takes no interrupt its
decision D8 (R413), the IME tick after the entry its decision D3 (R140, R407), and the order of the device updates that
follow its decision D24 (R141). -/
def Obligations.InterruptEntry : Prop :=
  ∀ (s : State) (i : IrqSource), s.cpu.stopped = false → s.cpu.ime = true → s.nextTriggered = some i →
    let u := { s with irq := { s.irq with flag := s.irq.flag &&& ~~~((1 : BitVec 5) <<< i.index) } }
    ∃ t, s.stepBranch exec = .next t ∧ step s = .next (t.tickIme.deviceUpdate t.cycles) ∧
      t.cpu.pc = BitVec.ofNat 16 (0x40 + 8 * i.index) ∧ t.cpu.sp = s.cpu.sp - 2 ∧
      StoresWord u t (s.cpu.sp - 2) s.cpu.pc ∧ t.cycles = (if s.cpu.halted then 20 else 16) ∧
      t.cpu.ime = false ∧ t.cpu.halted = false ∧ t.cpu.stopped = false ∧
      t.cpu.imeEnableDelay = s.cpu.imeEnableDelay ∧ t.cpu.imeDisableDelay = s.cpu.imeDisableDelay ∧
      t.cpu.f = s.cpu.f ∧ SameRegs s t []

/-- The three waiting steps: a stopped step, the wake from HALT with IME off, and halted idle (R411, R412, R413). The
stopped state is the spec's decision D8; the wake's PC change is its parameter HALT_WAKE_PC_DELTA (R6, decision D7; log
entry 2). The IME tick at the end of each of these steps is the spec's decision D3 (R140, R407), and the order of the device
updates that follow it its decision D24 (R141). -/
def Obligations.WaitingSteps : Prop :=
  ∀ s : State,
    (s.cpu.stopped = true → step s = .next
      (({ s with cpu := { s.cpu with stopped := s.nextTriggered.isNone }, cycles := 4 } : State).tickIme.deviceUpdate 4)) ∧
    (s.cpu.stopped = false → s.cpu.halted = true → s.cpu.ime = false → s.nextTriggered ≠ none → step s = .next
      (({ s with cpu := { s.cpu with halted := false, pc := s.cpu.pc + s.params.haltWakePcDelta }, cycles := 4 } : State).tickIme.deviceUpdate 4)) ∧
    (s.cpu.stopped = false → s.cpu.halted = true → s.nextTriggered = none → step s = .next
      (({ s with cycles := 4 } : State).tickIme.deviceUpdate 4))

/-- With no interrupt enabled in IE, a halted or stopped CPU never wakes: over any number of steps it stays where it is
(R412, R494). The stopped state is the spec's decision D8 (R413). IE's bits 7 to 5 are stored and make none pending: its
decision D12 (R402). -/
def Obligations.WaitingWithoutAnEnabledInterruptLastsForever : Prop :=
  ∀ (n : Nat) (s : State), (s.cpu.halted = true ∨ s.cpu.stopped = true) → s.irq.enable &&& 0x1F = 0 →
    ∃ t, runSteps n s = .next t ∧ t.cpu.pc = s.cpu.pc ∧ t.cpu.sp = s.cpu.sp ∧ t.cpu.halted = s.cpu.halted ∧
      t.cpu.stopped = s.cpu.stopped ∧ t.irq.enable = s.irq.enable ∧ SameRegs s t [] ∧ t.cpu.f = s.cpu.f

/-- Only these events change IME: interrupt service, RETI, and a delay counter that fires (R405). At the end of the step,
after whatever branch it took, a pending counter n counts down to n - 1 and fires at 1; when both fire IME is off (R407;
the tick on every path is the spec's decision D3, its order the spec's decision D4). That RETI changes IME at once is the
spec's decision D5 (R330), that a stopped CPU takes no interrupt its decision D8. A counter of 0, which no run from positive
delays reaches, fires at the next tick: the model's choice (log entry 12). -/
def Obligations.OnlyTheListedEventsChangeIME : Prop :=
  ∀ s u t : State, s.stepBranch exec = .next u → step s = .next t →
    (t.cpu.ime ≠ s.cpu.ime →
      (s.cpu.stopped = false ∧ s.cpu.ime = true ∧ s.nextTriggered ≠ none) ∨ (s.Runs ∧ s.fetchInstr.1 = .reti) ∨
      (∃ n, n ≤ 1 ∧ (u.cpu.imeEnableDelay = some n ∨ u.cpu.imeDisableDelay = some n))) ∧
    (u.cpu.imeEnableDelay = none → t.cpu.imeEnableDelay = none) ∧
    (u.cpu.imeDisableDelay = none → t.cpu.imeDisableDelay = none) ∧
    (∀ n, 1 < n → u.cpu.imeEnableDelay = some n → t.cpu.imeEnableDelay = some (n - 1)) ∧
    (∀ n, 1 < n → u.cpu.imeDisableDelay = some n → t.cpu.imeDisableDelay = some (n - 1)) ∧
    (u.cpu.imeEnableDelay = some 1 → t.cpu.imeEnableDelay = none ∧
      ((∀ m, u.cpu.imeDisableDelay = some m → 1 < m) → t.cpu.ime = true)) ∧
    (u.cpu.imeDisableDelay = some 1 → t.cpu.imeDisableDelay = none ∧ t.cpu.ime = false)

/-- With EI_DELAY = 2 and DI_DELAY = 1, after EI the next instruction runs with IME off, and IME is on at the end of its
step; EI then DI ends with IME off, EI then EI postpones; and IME is off at the end of DI's own step (R353, R354, R407,
R408). The two delays and the order of the two ticks are the spec's decision D4, the defaults of its parameters (R6; log
entry 1); the tick at the end of each step is its decision D3. -/
def Obligations.EiTakesEffectAfterTheNextInstruction : Prop :=
  ∀ s : State, s.params.eiDelay = 2 → s.params.diDelay = 1 → s.Runs →
    (s.cpu.ime = false → s.cpu.imeDisableDelay = none → s.peek s.cpu.pc = 0xFB →
      ∃ t u, step s = .next t ∧ t.cpu.ime = false ∧ t.Runs ∧ step t = .next u ∧
        (t.fetchInstr.1 ≠ .ei → t.fetchInstr.1 ≠ .di → u.cpu.ime = true ∧ u.cpu.imeEnableDelay = none) ∧
        (t.fetchInstr.1 = .di → u.cpu.ime = false ∧ u.cpu.imeDisableDelay = none) ∧
        (t.fetchInstr.1 = .ei → u.cpu.ime = false ∧ u.cpu.imeEnableDelay = some 1)) ∧
    (s.peek s.cpu.pc = 0xF3 → ∃ t, step s = .next t ∧ t.cpu.ime = false ∧ t.cpu.imeDisableDelay = none)

/-! ## The bus, the cartridge and DMA (20_memory.md) -/

/-- R62, R63, R65: echo RAM is WRAM with a diagnostic; the prohibited region reads 0xFF and drops writes, with one; the
audio stub reads 0 and drops writes, with none. -/
def Obligations.EchoProhibitedAndAudioRegions : Prop :=
  ∀ (s : State) (a : Word) (v : Byte),
    (0xE000 ≤ a.toNat → a.toNat ≤ 0xFDFF →
      s.read8 a = (s.peek (a - 0x2000), s.logDiag (.echoAccess a)) ∧
      s.write8 a v = (s.logDiag (.echoAccess a)).write8 (a - 0x2000) v) ∧
    (0xFEA0 ≤ a.toNat → a.toNat ≤ 0xFEFF →
      s.read8 a = (0xFF, s.logDiag (.prohibitedAccess a)) ∧ s.write8 a v = s.logDiag (.prohibitedAccess a)) ∧
    (0xFF10 ≤ a.toNat → a.toNat ≤ 0xFF3F → s.read8 a = (0x00, s) ∧ s.write8 a v = s)

/-- A byte written to VRAM, WRAM, OAM or HRAM reads back, at its address and at its echo, and changes nothing else; an
unmapped address reads 0xFF and drops writes, with a diagnostic (R61, R62; the value 0xFF is the spec's decision D11). That
VRAM and OAM are open to the CPU in every PPU mode is the spec's decision D22, that a pending DMA restricts no access its
decision D24. -/
def Obligations.PlainStorageAndUnmappedAddresses : Prop :=
  ∀ (s : State) (a : Word) (v : Byte),
    ((0x8000 ≤ a.toNat ∧ a.toNat ≤ 0x9FFF) ∨ (0xC000 ≤ a.toNat ∧ a.toNat ≤ 0xDFFF) ∨
        (0xFE00 ≤ a.toNat ∧ a.toNat ≤ 0xFE9F) ∨ (0xFF80 ≤ a.toNat ∧ a.toNat ≤ 0xFFFE) →
      (s.write8 a v).peek a = v ∧
      (0xC000 ≤ a.toNat → a.toNat ≤ 0xDDFF → (s.write8 a v).peek (a + 0x2000) = v) ∧
      (∀ b, b ≠ a → ¬ (0xE000 ≤ b.toNat ∧ b.toNat ≤ 0xFDFF ∧ b - 0x2000 = a) → (s.write8 a v).peek b = s.peek b) ∧
      (s.read8 a).2 = s ∧ s.write8 a v = { s with mem := (s.write8 a v).mem }) ∧
    (a.toNat ∈ [0xFF03, 0xFF08, 0xFF09, 0xFF0A, 0xFF0B, 0xFF0C, 0xFF0D, 0xFF0E] ∨ (0xFF4C ≤ a.toNat ∧ a.toNat ≤ 0xFF7F) →
      s.read8 a = (0xFF, s.logDiag (.unmappedAccess a)) ∧ s.write8 a v = s.logDiag (.unmappedAccess a))

/-- R73: a 16-bit value written to two addresses of plain storage reads back, its low byte at the first (00_scope.md R10).
The wrap of the second address is the spec's decision D9; that VRAM and OAM are open in every PPU mode, and all of memory
while a DMA is pending, its decisions D22 and D24; which cell of cartridge RAM an address names its decision D28. -/
def Obligations.SixteenBitValueReadsBackLittleEndian : Prop :=
  ∀ (s : State) (a v : Word) (j k : Nat), s.cellOf a = some j → s.cellOf (a + 1) = some k → j ≠ k →
    ((s.write16 a v).read16 a).1 = v ∧ (s.write16 a v).peek a = loByte v ∧ (s.write16 a v).peek (a + 1) = hiByte v

/-- What a read of each I/O register answers and a write stores (R61, R64, R70; 60_exceptions.md R403, R430, R431). The
addresses, widths and read masks are the spec's decisions D12 to D15, D19 and D23, the mode numbers that STAT reads as
(R32, R445) its decision D20; that LCDC keeps all its bits is its decision D16, that WY and WX are only stored its decision
D17. -/
def Obligations.IoRegistersReadAndWrite : Prop :=
  ∀ (s : State) (v : Byte),
    (s.peek 0xFF04 = s.timer.div ∧ s.write8 0xFF04 v = { s with timer := { s.timer with div := 0, divAcc := 0 } }) ∧
    (s.peek 0xFF05 = s.timer.tima ∧ s.write8 0xFF05 v = { s with timer := { s.timer with tima := v } }) ∧
    (s.peek 0xFF06 = s.timer.tma ∧ s.write8 0xFF06 v = { s with timer := { s.timer with tma := v } }) ∧
    (s.peek 0xFF07 = 0xF8 ||| s.timer.tac.zeroExtend 8 ∧
      s.write8 0xFF07 v = { s with timer := { s.timer with tac := BitVec.ofNat 3 v.toNat } }) ∧
    (s.peek 0xFF0F = 0xE0 ||| s.irq.flag.zeroExtend 8 ∧
      s.write8 0xFF0F v = { s with irq := { s.irq with flag := BitVec.ofNat 5 v.toNat } }) ∧
    (s.peek 0xFFFF = s.irq.enable ∧ s.write8 0xFFFF v = { s with irq := { s.irq with enable := v } }) ∧
    (s.peek 0xFF40 = s.ppu.lcdc ∧ s.write8 0xFF40 v = { s with ppu := { s.ppu with lcdc := v } }) ∧
    (s.peek 0xFF41 = BitVec.ofNat 8 (0x80 + 8 * s.ppu.statBits.toNat + (if s.ppu.coincidence then 4 else 0)
        + (if s.ppu.mode = .hBlank then 0 else if s.ppu.mode = .vBlank then 1 else if s.ppu.mode = .oamSearch then 2 else 3)) ∧
      s.write8 0xFF41 v = { s with ppu := { s.ppu with statBits := BitVec.ofNat 4 (v.toNat / 8) } }) ∧
    (s.peek 0xFF42 = s.ppu.scy ∧ s.write8 0xFF42 v = { s with ppu := { s.ppu with scy := v } }) ∧
    (s.peek 0xFF43 = s.ppu.scx ∧ s.write8 0xFF43 v = { s with ppu := { s.ppu with scx := v } }) ∧
    (s.peek 0xFF44 = s.ppu.ly ∧ s.write8 0xFF44 v = s) ∧
    (s.peek 0xFF45 = s.ppu.lyc ∧ s.write8 0xFF45 v = { s with ppu := { s.ppu with lyc := v } }) ∧
    (s.peek 0xFF46 = s.dma.source ∧ s.write8 0xFF46 v = { s with dma := { source := v, pending := true, counter := 0 } }) ∧
    (s.peek 0xFF47 = s.ppu.bgp ∧ s.write8 0xFF47 v = { s with ppu := { s.ppu with bgp := v } }) ∧
    (s.peek 0xFF48 = s.ppu.obp0 ∧ s.write8 0xFF48 v = { s with ppu := { s.ppu with obp0 := v } }) ∧
    (s.peek 0xFF49 = s.ppu.obp1 ∧ s.write8 0xFF49 v = { s with ppu := { s.ppu with obp1 := v } }) ∧
    (s.peek 0xFF4A = s.ppu.wy ∧ s.write8 0xFF4A v = { s with ppu := { s.ppu with wy := v } }) ∧
    (s.peek 0xFF4B = s.ppu.wx ∧ s.write8 0xFF4B v = { s with ppu := { s.ppu with wx := v } })

/-- The cartridge's windows. ROM-only: the ROM window reads the image, or 0xFF beyond it, the RAM window 0xFF, and writes to
both are ignored (R79). MBC1: the four register ranges, and what the ROM and RAM windows reach (R80..R83), the bank reduced
modulo the number of 16 KiB banks, (32 KiB << ROM-size code) / 16 KiB. The reset values, the meaning of the mode bit, the
reduction modulo the sizes and the ROM-only RAM window are the spec's decision D28. -/
def Obligations.CartridgeBanksItsWindows : Prop :=
  ∀ (s : State) (a : Word) (v : Byte),
    let rom := fun i : Nat => if i < s.cart.romLen then Memory.read s.cart.rom i else 0xFF
    let nbanks := 0x8000 * 2 ^ s.cart.romSizeCode.toNat / 0x4000
    (s.cart.mapper = .romOnly →
      (a.toNat < 0x8000 → s.peek a = rom a.toNat ∧ s.write8 a v = s) ∧
      (0xA000 ≤ a.toNat → a.toNat < 0xC000 → s.peek a = 0xFF ∧ s.write8 a v = s)) ∧
    (∀ m : Mbc1, s.cart.mapper = .mbc1 m →
      (a.toNat < 0x2000 → s.write8 a v = { s with cart := { s.cart with
        mapper := .mbc1 { m with ramEnable := decide (v.toNat % 32 = 0x0A) } } }) ∧
      (0x2000 ≤ a.toNat → a.toNat < 0x4000 → s.write8 a v = { s with cart := { s.cart with
        mapper := .mbc1 { m with romBankLow := if v.toNat % 32 = 0 then 1 else BitVec.ofNat 5 v.toNat } } }) ∧
      (0x4000 ≤ a.toNat → a.toNat < 0x6000 → s.write8 a v = { s with cart := { s.cart with
        mapper := .mbc1 { m with bankHigh := BitVec.ofNat 2 v.toNat } } }) ∧
      (0x6000 ≤ a.toNat → a.toNat < 0x8000 → s.write8 a v = { s with cart := { s.cart with
        mapper := .mbc1 { m with mode := if v.toNat % 2 = 1 then .advanced else .simple } } }) ∧
      (a.toNat < 0x4000 → s.peek a =
        rom ((if m.mode = .advanced then m.bankHigh.toNat * 0x20 else 0) % nbanks * 0x4000 + a.toNat)) ∧
      (0x4000 ≤ a.toNat → a.toNat < 0x8000 → s.peek a =
        rom ((m.bankHigh.toNat * 0x20 + m.romBankLow.toNat) % nbanks * 0x4000 + (a.toNat - 0x4000))) ∧
      (0xA000 ≤ a.toNat → a.toNat < 0xC000 →
        (m.ramEnable = true → 0 < s.cart.ramSize →
          let k := 0x10000 +
            (a.toNat - 0xA000 + (if m.mode = .advanced then m.bankHigh.toNat * 0x2000 else 0)) % s.cart.ramSize
          s.cellOf a = some k ∧ s.peek a = Memory.read s.mem k ∧ s.write8 a v = { s with mem := Memory.write s.mem k v }) ∧
        (m.ramEnable = false ∨ s.cart.ramSize = 0 → s.peek a = 0xFF ∧ s.write8 a v = s)))

/-- The DMA's update: nothing while none is pending; counting below 640 cycles; then 160 bytes of the source page in OAM,
every other cell as before (R71, R72). That any page may be the source, read through the bus with its side effects, is the
spec's decision D23; its place in the update and that it never stalls the CPU are its decision D24. -/
def Obligations.DmaCopiesThePageAfter640Cycles : Prop :=
  ∀ (s : State) (c : Nat),
    (s.dma.pending = false → s.dmaUpdate c = s) ∧
    (s.dma.pending = true → s.dma.counter + c < 640 →
      s.dmaUpdate c = { s with dma := { s.dma with counter := s.dma.counter + c } }) ∧
    (s.dma.pending = true → 640 ≤ s.dma.counter + c → ∃ t, s.dmaUpdate c = t ∧
      t.dma = { s.dma with pending := false, counter := 0 } ∧
      (∀ i, i < 160 → t.oam i = s.peek (mkWord s.dma.source (BitVec.ofNat 8 i))) ∧
      (∀ k, (k < oamCell 0 ∨ oamCell 160 ≤ k) → Memory.read t.mem k = Memory.read s.mem k) ∧
      t = { s with dma := t.dma, mem := t.mem, diag := t.diag })

/-! ## The devices (60_exceptions.md sections 5 to 8) -/

/-- No instruction writes the PPU's own state (LY, the mode, its clock, the coincidence bit, the framebuffer), a button,
the TIMA accumulator, or the ROM image and the cartridge's sizes; no step changes the ROM image or a button (R444, R33,
R36, R38). That a timer register's write leaves the TIMA accumulator alone is the spec's decision D14 (R431), that STAT's
mode and coincidence bits are not writable its decision D19 (R64), that a ROM-only cartridge ignores writes its decision D28
(R79), and that a write of P1 stores the two selection bits only its decision D29 (R471). -/
def Obligations.NoInstructionWritesDeviceOwnedState : Prop :=
  (∀ (i : Instr) (s : State), ∃ t, exec i s = .next t ∧
    t.ppu.ly = s.ppu.ly ∧ t.ppu.mode = s.ppu.mode ∧ t.ppu.clock = s.ppu.clock ∧ t.ppu.coincidence = s.ppu.coincidence ∧
    t.ppu.fb = s.ppu.fb ∧ (∀ b, t.joypad.pressed b = s.joypad.pressed b) ∧ t.timer.timaAcc = s.timer.timaAcc ∧
    t.cart.rom = s.cart.rom ∧ t.cart.romLen = s.cart.romLen ∧ t.cart.romSizeCode = s.cart.romSizeCode ∧
    t.cart.ramSize = s.cart.ramSize) ∧
  (∀ s t : State, step s = .next t → t.cart.rom = s.cart.rom ∧ t.cart.romLen = s.cart.romLen ∧
    t.cart.romSizeCode = s.cart.romSizeCode ∧ t.cart.ramSize = s.cart.ramSize ∧
    ∀ b, t.joypad.pressed b = s.joypad.pressed b)

/-- The timer's update changes the timer and IF only: DIV and its accumulator together count cycles modulo 65,536; with the
timer off nothing else changes; with it on TIMA ticks once a period, wraps from 0xFF to TMA and then requests the Timer interrupt (R432, R433).
The periods are the spec's decision D13, the reload in the same tick its decision D14. -/
def Obligations.TimerCountsCyclesAndReloads : Prop :=
  ∀ (s : State) (c : Nat),
    let t := s.timerUpdate c
    let p := if s.timer.tac.toNat % 4 = 0 then 1024 else if s.timer.tac.toNat % 4 = 1 then 16
      else if s.timer.tac.toNat % 4 = 2 then 64 else 256
    let n := (s.timer.timaAcc + c) / p
    let left := 256 - s.timer.tima.toNat
    t = { s with timer := t.timer, irq := t.irq } ∧
    (t.timer.divAcc = (s.timer.divAcc + c) % 256 ∧
      t.timer.div = s.timer.div + BitVec.ofNat 8 ((s.timer.divAcc + c) / 256)) ∧
    (t.timer.tma = s.timer.tma ∧ t.timer.tac = s.timer.tac ∧ t.irq.enable = s.irq.enable) ∧
    (s.timer.tac.getLsbD 2 = false →
      t.timer.tima = s.timer.tima ∧ t.timer.timaAcc = s.timer.timaAcc ∧ t.irq = s.irq) ∧
    (s.timer.tac.getLsbD 2 = true → t.timer.timaAcc = (s.timer.timaAcc + c) % p ∧
      (n < left → t.timer.tima = s.timer.tima + BitVec.ofNat 8 n ∧ t.irq = s.irq) ∧
      (left ≤ n → t.timer.tima.toNat = s.timer.tma.toNat + (n - left) % (256 - s.timer.tma.toNat) ∧
        t.irq.flag = s.irq.flag ||| 4))

/-- The four transitions and their periods (R441, R443); from a legal PPU state an update, however long, moves the PPU on by
exactly its cycles around a frame of 70,224 (R440), and so does a step (R141), since no instruction writes LY (R64, R444).
That the mode machine runs whatever LCDC's LCD enable is the spec's decision D16 (R446), that STAT's mode bits are not
writable its decision D19 (R64), the order of the device updates in a step its decision D24 (R141). -/
def Obligations.PpuRunsThroughTheFrame : Prop :=
  (∀ s : State,
    (s.ppu.mode = .oamSearch → s.ppu.mode.period = 80 ∧
      s.ppuTransition = { s with ppu := { s.ppu with mode := .transfer } }) ∧
    (s.ppu.mode = .transfer → s.ppu.mode.period = 172 ∧
      s.ppuTransition = { s.renderLine with ppu := { s.renderLine.ppu with mode := .hBlank } }) ∧
    (s.ppu.mode = .hBlank → s.ppu.mode.period = 204 ∧
      s.ppuTransition = if s.ppu.ly + 1 = 144
        then { s with ppu := { s.ppu with ly := 144, mode := .vBlank }, irq := { s.irq with flag := s.irq.flag ||| 1 } }
        else { s with ppu := { s.ppu with ly := s.ppu.ly + 1, mode := .oamSearch } }) ∧
    (s.ppu.mode = .vBlank → s.ppu.ly.toNat ≤ 153 → s.ppu.mode.period = 456 ∧
      s.ppuTransition = if s.ppu.ly = 153
        then { s with ppu := { s.ppu with ly := 0, mode := .oamSearch } }
        else { s with ppu := { s.ppu with ly := s.ppu.ly + 1 } })) ∧
  (∀ (s : State) (c : Nat), s.PpuLegal →
    (s.ppuUpdate c).PpuLegal ∧ (s.ppuUpdate c).ppu.framePosition = (s.ppu.framePosition + c) % 70224) ∧
  (∀ s t : State, s.PpuLegal → step s = .next t →
    t.PpuLegal ∧ t.ppu.framePosition = (s.ppu.framePosition + t.cycles) % 70224)

/-- The PPU's update changes LY, its mode and clock, the coincidence bit and the framebuffer, and IF, and nothing else of the
machine (R440, R443). It first compares LY, as it was before the update's transitions, with LYC: the coincidence bit is the
comparison, and LCDStat is requested exactly when they are equal (R440, R442). That STAT's enable bits do not gate it is
the spec's decision D19, that LCDC's LCD enable does not stop the update its decision D16 (R446). -/
def Obligations.LyCoincidenceRequestsLcdStat : Prop :=
  ∀ (s : State) (c : Nat),
    let t := s.ppuUpdate c
    t = { s with
      ppu := { s.ppu with ly := t.ppu.ly, mode := t.ppu.mode, clock := t.ppu.clock, coincidence := t.ppu.coincidence, fb := t.ppu.fb },
      irq := t.irq } ∧
    t.ppu.coincidence = decide (s.ppu.ly = s.ppu.lyc) ∧
    t.irq.flag.getLsbD 1 = (s.irq.flag.getLsbD 1 || decide (s.ppu.ly = s.ppu.lyc)) ∧
    (∀ k, 2 ≤ k → t.irq.flag.getLsbD k = s.irq.flag.getLsbD k) ∧
    t.irq.enable = s.irq.enable

/-- Rendering line LY writes row LY of the framebuffer and nothing else: each pixel is that of the last drawn sprite with an
opaque pixel there, else the background's, or what the row held when LCDC[0] is 0; the sprites are the first ten in table
order that cover the line (R450, R451, R454, R455). The clauses after the first two say, by bus reads, what the background's
pixel is (map, tile address, colour id and palette: R451, R452, R453, R31), which lines a sprite covers (R454), and what it
puts at a column of a line it covers (flips, tile, palette, transparent colour 0: R455). LCDC's bits are the spec's decision
D16, that no window is drawn its decision D17, the sprite attributes and priorities its decision D18, the framebuffer's size
its decision D21. -/
def Obligations.RenderLineComposesBackgroundAndSprites : Prop :=
  (∀ s : State, s.renderLine = { s with ppu := { s.ppu with fb := s.renderLine.ppu.fb } }) ∧
  (∀ (s : State) (ly y : Fin Config.screenHeight) (x : Fin Config.screenWidth), s.ppu.ly.toNat = ly.val →
    (y ≠ ly → s.renderLine.ppu.fb[y] = s.ppu.fb[y]) ∧
    s.renderLine.ppu.fb[ly][x] = (((s.spritesOnLine ly.val).filterMap (s.spriteAt ly.val x.val)).getLast?.getD
      (if s.ppu.lcdc.getLsbD 0 then s.bgShade ly.val x.val else s.ppu.fb[ly][x]))) ∧
  (∀ (s : State) (ly : Nat), (s.spritesOnLine ly).length ≤ 10 ∧ (s.spritesOnLine ly).Pairwise (· < ·) ∧
    (∀ k ∈ s.spritesOnLine ly, k < 40 ∧ s.spriteCovers ly k = true) ∧
    (∀ k, k < 40 → s.spriteCovers ly k = true → k ∉ s.spritesOnLine ly →
      (s.spritesOnLine ly).length = 10 ∧ ∀ j ∈ s.spritesOnLine ly, j < k)) ∧
  (∀ (s : State) (ly x : Nat),
    let byte := fun n : Nat => (s.peek (BitVec.ofNat 16 n)).toNat
    let bit := fun v i : Nat => v / 2 ^ i % 2
    let py := (ly + s.ppu.scy.toNat) % 256
    let px := (x + s.ppu.scx.toNat) % 256
    let index := byte ((if s.ppu.lcdc.getLsbD 3 then 0x9C00 else 0x9800) + py / 8 * 32 + px / 8)
    let tile := if s.ppu.lcdc.getLsbD 4 then 0x8000 + 16 * index
      else if index < 128 then 0x9000 + 16 * index else 0x8800 + 16 * (index - 128)
    let id := 2 * bit (byte (tile + 2 * (py % 8) + 1)) (7 - px % 8) + bit (byte (tile + 2 * (py % 8))) (7 - px % 8)
    (s.bgShade ly x).toNat = s.ppu.bgp.toNat / 4 ^ id % 4) ∧
  (∀ (s : State) (ly x k : Nat), k < 40 →
    let byte := fun n : Nat => (s.peek (BitVec.ofNat 16 n)).toNat
    let bit := fun v i : Nat => v / 2 ^ i % 2
    let tall := s.ppu.lcdc.getLsbD 2
    let height := if tall then 16 else 8
    let top := byte (0xFE00 + 4 * k)
    let left := byte (0xFE00 + 4 * k + 1)
    let attr := byte (0xFE00 + 4 * k + 3)
    (s.spriteCovers ly k = true ↔ top ≤ ly + 16 ∧ ly + 16 < top + height) ∧
    (s.spriteCovers ly k = true →
      let index := if tall then byte (0xFE00 + 4 * k + 2) / 2 * 2 else byte (0xFE00 + 4 * k + 2)
      let row := if bit attr 6 = 1 then height - 1 - (ly + 16 - top) else ly + 16 - top
      let col := if bit attr 5 = 1 then 7 - (x + 8 - left) else x + 8 - left
      let tile := 0x8000 + 16 * index + 2 * row
      let id := 2 * bit (byte (tile + 1)) (7 - col) + bit (byte tile) (7 - col)
      (left ≤ x + 8 ∧ x < left ∧ id ≠ 0 → ∃ v, s.spriteAt ly x k = some v ∧
        v.toNat = (if bit attr 4 = 1 then s.ppu.obp1 else s.ppu.obp0).toNat / 4 ^ id % 4) ∧
      (¬ (left ≤ x + 8 ∧ x < left ∧ id ≠ 0) → s.spriteAt ly x k = none)))

/-- The joypad register and the host's button calls (R470, R471, R472). The layout of P1 and the interrupt on a press are
the spec's decision D29. -/
def Obligations.JoypadLinesAndPresses : Prop :=
  (∀ (s : State) (v : Byte),
    s.write8 0xFF00 v = { s with joypad := { s.joypad with
      selectAction := v.getLsbD 5, selectDirection := v.getLsbD 4 } } ∧
    (s.peek 0xFF00).getLsbD 7 = true ∧ (s.peek 0xFF00).getLsbD 6 = true ∧
    (s.peek 0xFF00).getLsbD 5 = s.joypad.selectAction ∧ (s.peek 0xFF00).getLsbD 4 = s.joypad.selectDirection ∧
    ∀ r ∈ [(0, Button.a, Button.right), (1, .b, .left), (2, .select, .up), (3, .start, .down)],
      ((s.peek 0xFF00).getLsbD r.1 = false ↔
        (s.joypad.pressed r.2.1 = true ∧ s.joypad.selectAction = false) ∨
        (s.joypad.pressed r.2.2 = true ∧ s.joypad.selectDirection = false))) ∧
  (∀ (s : State) (b q : Button) (v : Bool),
    (s.setButton b v).joypad.pressed q = (if q = b then v else s.joypad.pressed q) ∧
    (s.setButton b v).joypad.selectAction = s.joypad.selectAction ∧
    (s.setButton b v).joypad.selectDirection = s.joypad.selectDirection ∧
    (s.setButton b v).irq = (if v = true ∧ s.joypad.pressed b = false ∧
        (if b ∈ [Button.a, .b, .select, .start] then s.joypad.selectAction else s.joypad.selectDirection) = false
      then { s.irq with flag := s.irq.flag ||| 16 } else s.irq))

/-- The serial registers: a transfer with the internal clock completes inside the write of SC, and the host drains the
oldest byte (R480, R481, R482; the spec's decision D30). -/
def Obligations.SerialTransferCompletesInTheWrite : Prop :=
  ∀ (s : State) (v : Byte),
    (s.peek 0xFF01 = s.serial.sb ∧ s.write8 0xFF01 v = { s with serial := { s.serial with sb := v } }) ∧
    s.peek 0xFF02 = 0x7E ||| (s.serial.sc &&& 0x81) ∧
    (v &&& 0x81 = 0x81 → s.write8 0xFF02 v = { s with
      serial := { s.serial with sc := 0x01, out := s.serial.out ++ [s.serial.sb] },
      irq := { s.irq with flag := s.irq.flag ||| 8 } }) ∧
    (v &&& 0x81 ≠ 0x81 → s.write8 0xFF02 v = { s with serial := { s.serial with sc := v &&& 0x81 } }) ∧
    s.drainSerial = (s.serial.out.head?, { s with serial := { s.serial with out := s.serial.out.drop 1 } })
end

