-- ==== Sys2Proof/Laws/Bits.lean ====
section
/-! SUPPORT. The small facts about byte order, bit fields and the flags byte. -/

namespace Sys2Proof

@[simp] theorem mkWord_hiByte_loByte (w : Word) : mkWord (hiByte w) (loByte w) = w := by
  apply BitVec.eq_of_getLsbD_eq
  intro i hi
  unfold mkWord hiByte loByte
  rw [BitVec.getLsbD_append, BitVec.getLsbD_extractLsb', BitVec.getLsbD_extractLsb']
  by_cases h : i < 8
  · simp [h]
  · have e : 8 + (i - 8) = i := by omega
    have l : i - 8 < 8 := by omega
    simp [h, e, l]

@[simp] theorem hiByte_mkWord (hi lo : Byte) : hiByte (mkWord hi lo) = hi := by
  apply BitVec.eq_of_getLsbD_eq
  intro i h
  unfold mkWord hiByte
  rw [BitVec.getLsbD_extractLsb', BitVec.getLsbD_append]
  simp [h]

@[simp] theorem loByte_mkWord (hi lo : Byte) : loByte (mkWord hi lo) = lo := by
  apply BitVec.eq_of_getLsbD_eq
  intro i h
  unfold mkWord loByte
  rw [BitVec.getLsbD_extractLsb', BitVec.getLsbD_append]
  simp [h]

theorem mkWord_toNat (hi lo : Byte) : (mkWord hi lo).toNat = 256 * hi.toNat + lo.toNat := by
  unfold mkWord
  rw [BitVec.toNat_append, Nat.shiftLeft_eq, Nat.mul_comm, Nat.or_comm]
  have h := lo.isLt
  rw [Nat.or_comm, show (2 ^ 8 : Nat) * hi.toNat = hi.toNat <<< 8 by rw [Nat.shiftLeft_eq, Nat.mul_comm],
    ← Nat.shiftLeft_add_eq_or_of_lt h, Nat.shiftLeft_eq]
  omega

theorem hiByte_toNat (w : Word) : (hiByte w).toNat = w.toNat / 256 := by
  have h := w.isLt
  simp [hiByte, BitVec.extractLsb'_toNat, Nat.shiftRight_eq_div_pow]
  omega

theorem loByte_toNat (w : Word) : (loByte w).toNat = w.toNat % 256 := by
  simp [loByte, BitVec.extractLsb'_toNat]

theorem and_f0_and_0f (v : Byte) : v &&& 0xF0 &&& 0x0F = 0 := by
  rw [BitVec.and_assoc]
  simp

namespace Machine

/-- A byte with bits 3..0 zero is its own flag part. -/
theorem and_f0_of_low_zero (v : Byte) (h : v &&& 0x0F = 0) : v &&& 0xF0 = v := by
  revert h
  revert v
  decide

@[simp] theorem toByte_and_f0 (f : Flags) : f.toByte &&& 0xF0 = f.toByte := by
  obtain ⟨z, n, h, c⟩ := f
  cases z <;> cases n <;> cases h <;> cases c <;> rfl

@[simp] theorem toByte_and_0f (f : Flags) : f.toByte &&& 0x0F = 0 := by
  obtain ⟨z, n, h, c⟩ := f
  cases z <;> cases n <;> cases h <;> cases c <;> rfl

@[simp] theorem ofByte_toByte (f : Flags) : Flags.ofByte f.toByte = f := by
  obtain ⟨z, n, h, c⟩ := f
  cases z <;> cases n <;> cases h <;> cases c <;> rfl

/-- The four flags determine a flags byte whose bits 3..0 are zero. -/
theorem toByte_ofByte (v : Byte) (h : v &&& 0x0F = 0) : (Flags.ofByte v).toByte = v := by
  revert h
  revert v
  decide

end Machine

end Sys2Proof
end

