-- ==== Sys2Proof/Laws/Memory.lean ====
section
/-! SUPPORT. The laws of byte storage: what a read answers after a write, and that writing keeps the canonical form. -/

namespace Sys2Proof.Machine

theorem Memory.read_erase (m : Memory) (k j : Nat) :
    Memory.read (Memory.erase m k) j = if j = k then Memory.unlisted else Memory.read m j := by
  induction m with
  | nil => simp [Memory.erase, Memory.read]
  | cons c rest ih =>
    obtain ⟨i, v⟩ := c
    simp only [Memory.erase]
    split
    · next h =>
      rw [ih]
      simp only [Memory.read]
      split
      · rfl
      · next h' => rw [if_neg (by omega)]
    · next h =>
      simp only [Memory.read]
      split
      · next h' => rw [if_neg (by omega)]
      · exact ih

theorem Memory.read_insert (m : Memory) (k j : Nat) (v : Byte) (h : ∀ c ∈ m, c.1 ≠ k) :
    Memory.read (Memory.insert m k v) j = if j = k then v else Memory.read m j := by
  induction m with
  | nil =>
    simp only [Memory.insert, Memory.read]
    by_cases e : k = j
    · simp [e]
    · rw [if_neg e, if_neg (by omega)]
  | cons c rest ih =>
    obtain ⟨i, w⟩ := c
    have hi : i ≠ k := h (i, w) (by simp)
    have hr : ∀ c ∈ rest, c.1 ≠ k := fun c hc => h c (by simp [hc])
    simp only [Memory.insert]
    split
    · simp only [Memory.read]
      by_cases e : k = j
      · simp [e]
      · rw [if_neg e, if_neg (by omega : ¬ j = k)]
    · simp only [Memory.read, ih hr]
      by_cases e : i = j
      · rw [if_pos e, if_neg (by omega), if_pos e]
      · rw [if_neg e, if_neg e]

theorem Memory.erase_ne (m : Memory) (k : Nat) : ∀ c ∈ Memory.erase m k, c.1 ≠ k := by
  induction m with
  | nil => simp [Memory.erase]
  | cons c rest ih =>
    obtain ⟨i, v⟩ := c
    simp only [Memory.erase]
    split
    · exact ih
    · next h =>
      intro c hc
      rcases List.mem_cons.mp hc with rfl | hc
      · exact h
      · exact ih c hc

/-- A read after a write: the cell written reads as the value, every other cell as before. -/
theorem Memory.read_write (m : Memory) (k j : Nat) (v : Byte) :
    Memory.read (Memory.write m k v) j = if j = k then v else Memory.read m j := by
  unfold Memory.write
  split
  · next h => rw [Memory.read_erase, h]
  · rw [Memory.read_insert _ _ _ _ (Memory.erase_ne m k), Memory.read_erase]
    split <;> rfl

theorem Memory.mem_erase {m : Memory} {k : Nat} {c : Host.Cell} (h : c ∈ Memory.erase m k) : c ∈ m := by
  induction m with
  | nil => simp [Memory.erase] at h
  | cons d rest ih =>
    obtain ⟨i, v⟩ := d
    simp only [Memory.erase] at h
    split at h
    · exact List.mem_cons_of_mem _ (ih h)
    · rcases List.mem_cons.mp h with rfl | h
      · simp
      · exact List.mem_cons_of_mem _ (ih h)

theorem Memory.erase_wf {m : Memory} (h : Memory.wf m) (k : Nat) : Memory.wf (Memory.erase m k) := by
  refine ⟨?_, fun c hc => h.2 c (Memory.mem_erase hc)⟩
  have hp := h.1
  clear h
  induction m with
  | nil => simp [Memory.erase]
  | cons c rest ih =>
    obtain ⟨i, v⟩ := c
    rw [List.pairwise_cons] at hp
    simp only [Memory.erase]
    split
    · exact ih hp.2
    · rw [List.pairwise_cons]
      exact ⟨fun d hd => hp.1 d (Memory.mem_erase hd), ih hp.2⟩

theorem Memory.mem_insert {m : Memory} {k : Nat} {v : Byte} {c : Host.Cell} (h : c ∈ Memory.insert m k v) :
    c = (k, v) ∨ c ∈ m := by
  induction m with
  | nil => simpa [Memory.insert] using h
  | cons d rest ih =>
    obtain ⟨i, w⟩ := d
    simp only [Memory.insert] at h
    split at h
    · simpa using h
    · rcases List.mem_cons.mp h with rfl | h
      · simp
      · rcases ih h with e | e
        · exact .inl e
        · exact .inr (List.mem_cons_of_mem _ e)

theorem Memory.insert_wf {m : Memory} (h : Memory.wf m) (k : Nat) (v : Byte) (hk : ∀ c ∈ m, c.1 ≠ k)
    (hv : v ≠ Memory.unlisted) : Memory.wf (Memory.insert m k v) := by
  refine ⟨?_, ?_⟩
  · have hp := h.1
    clear h
    induction m with
    | nil => simp [Memory.insert]
    | cons c rest ih =>
      obtain ⟨i, w⟩ := c
      rw [List.pairwise_cons] at hp
      have hi : i ≠ k := hk (i, w) (by simp)
      simp only [Memory.insert]
      split
      · next hlt =>
        rw [List.pairwise_cons, List.pairwise_cons]
        refine ⟨fun d hd => ?_, hp⟩
        rcases List.mem_cons.mp hd with rfl | hd
        · exact hlt
        · have := hp.1 d hd
          simp only at this
          omega
      · next hlt =>
        rw [List.pairwise_cons]
        refine ⟨fun d hd => ?_, ih (fun c hc => hk c (List.mem_cons_of_mem _ hc)) hp.2⟩
        rcases Memory.mem_insert hd with rfl | hd
        · simp only
          omega
        · exact hp.1 d hd
  · intro c hc
    rcases Memory.mem_insert hc with rfl | hc
    · exact hv
    · exact h.2 c hc

/-- Writing keeps the canonical form. -/
theorem Memory.write_wf {m : Memory} (h : Memory.wf m) (k : Nat) (v : Byte) : Memory.wf (Memory.write m k v) := by
  unfold Memory.write
  split
  · exact Memory.erase_wf h k
  · next hv => exact Memory.insert_wf (Memory.erase_wf h k) k v (Memory.erase_ne m k) hv

theorem Memory.ofBytes_above {base : Nat} {bytes : List Byte} {c : Host.Cell} (h : c ∈ Memory.ofBytes base bytes) :
    base ≤ c.1 := by
  induction bytes generalizing base with
  | nil => simp [Memory.ofBytes] at h
  | cons v rest ih =>
    simp only [Memory.ofBytes] at h
    split at h
    · have := ih h
      omega
    · rcases List.mem_cons.mp h with rfl | h
      · simp
      · have := ih h
        omega

/-- The listed form of a byte array is canonical. -/
theorem Memory.ofBytes_wf (base : Nat) (bytes : List Byte) : Memory.wf (Memory.ofBytes base bytes) := by
  induction bytes generalizing base with
  | nil => simp [Memory.ofBytes, Memory.wf]
  | cons v rest ih =>
    simp only [Memory.ofBytes]
    split
    · exact ih (base + 1)
    · next hv =>
      refine ⟨?_, ?_⟩
      · rw [List.pairwise_cons]
        exact ⟨fun d hd => by have := Memory.ofBytes_above hd; simp only; omega, (ih (base + 1)).1⟩
      · intro c hc
        rcases List.mem_cons.mp hc with rfl | hc
        · exact hv
        · exact (ih (base + 1)).2 c hc

/-- The listed form of a byte array reads back as the array, and as the unlisted byte outside it. -/
theorem Memory.read_ofBytes (base : Nat) (bytes : List Byte) (k : Nat) :
    Memory.read (Memory.ofBytes base bytes) k =
      if base ≤ k then bytes.getD (k - base) Memory.unlisted else Memory.unlisted := by
  induction bytes generalizing base with
  | nil => simp [Memory.ofBytes, Memory.read]
  | cons v rest ih =>
    have step : (if base + 1 ≤ k then rest.getD (k - (base + 1)) Memory.unlisted else Memory.unlisted) =
        if base ≤ k then (if base = k then Memory.unlisted else (v :: rest).getD (k - base) Memory.unlisted)
        else Memory.unlisted := by
      by_cases h1 : base + 1 ≤ k
      · have e : k - base = (k - (base + 1)) + 1 := by omega
        rw [if_pos h1, if_pos (by omega), if_neg (by omega), e]
        simp
      · rw [if_neg h1]
        by_cases h2 : base = k
        · simp [h2]
        · rw [if_neg (by omega)]
    simp only [Memory.ofBytes]
    split
    · next hv =>
      rw [ih, step]
      by_cases h : base = k
      · subst h; simp [hv]
      · simp [h]
    · simp only [Memory.read]
      rw [ih, step]
      by_cases h : base = k
      · subst h; simp
      · simp [h]

theorem Memory.ofBytes_below {base : Nat} {bytes : List Byte} {c : Host.Cell} (h : c ∈ Memory.ofBytes base bytes) :
    c.1 < base + bytes.length := by
  induction bytes generalizing base with
  | nil => simp [Memory.ofBytes] at h
  | cons v rest ih =>
    rw [List.length_cons]
    simp only [Memory.ofBytes] at h
    split at h
    · have := ih h
      omega
    · rcases List.mem_cons.mp h with rfl | h
      · simp
      · have := ih h
        omega

/-- Past the cells of the first part, two parts one after the other read as the second. -/
theorem Memory.read_append_right (m n : Memory) (k : Nat) (h : ∀ c ∈ m, c.1 ≠ k) :
    Memory.read (m ++ n) k = Memory.read n k := by
  induction m with
  | nil => rfl
  | cons c rest ih =>
    obtain ⟨i, v⟩ := c
    have hi : i ≠ k := h (i, v) (by simp)
    simp only [List.cons_append, Memory.read, if_neg hi]
    exact ih fun c hc => h c (by simp [hc])

theorem Memory.read_of_ne (m : Memory) (k : Nat) (h : ∀ c ∈ m, c.1 ≠ k) : Memory.read m k = Memory.unlisted := by
  have := Memory.read_append_right m [] k h
  simpa [Memory.read] using this

/-- Where the second part lists no cell k, two parts read there as the first. -/
theorem Memory.read_append_left (m n : Memory) (k : Nat) (h : ∀ c ∈ n, c.1 ≠ k) :
    Memory.read (m ++ n) k = Memory.read m k := by
  induction m with
  | nil => exact Memory.read_of_ne n k h
  | cons c rest ih =>
    obtain ⟨i, v⟩ := c
    simp only [List.cons_append, Memory.read, ih]

/-- Two canonical parts, the second above the first, are canonical together. -/
theorem Memory.append_wf {m n : Memory} (hm : Memory.wf m) (hn : Memory.wf n) (h : ∀ c ∈ m, ∀ d ∈ n, c.1 < d.1) :
    Memory.wf (m ++ n) :=
  ⟨List.pairwise_append.mpr ⟨hm.1, hn.1, h⟩, fun c hc => (List.mem_append.mp hc).elim (hm.2 c) (hn.2 c)⟩

/-- The memory of the state after reset is in canonical form. -/
theorem reset_mem_wf : Memory.wf State.reset.mem := by decide

end Sys2Proof.Machine
end

