-- ==== Sys2Proof/Laws/State.lean ====
section
/-! SUPPORT. One lemma per field per update of State, so that no later proof unfolds a record update. -/

namespace Sys2Proof.Machine

/-! ### setF -/

@[simp] theorem State.setF_irq (s : State) (v : Byte) : (s.setF v).irq = s.irq := rfl
@[simp] theorem State.setF_timer (s : State) (v : Byte) : (s.setF v).timer = s.timer := rfl
@[simp] theorem State.setF_ppu (s : State) (v : Byte) : (s.setF v).ppu = s.ppu := rfl
@[simp] theorem State.setF_dma (s : State) (v : Byte) : (s.setF v).dma = s.dma := rfl
@[simp] theorem State.setF_joypad (s : State) (v : Byte) : (s.setF v).joypad = s.joypad := rfl
@[simp] theorem State.setF_serial (s : State) (v : Byte) : (s.setF v).serial = s.serial := rfl
@[simp] theorem State.setF_cart (s : State) (v : Byte) : (s.setF v).cart = s.cart := rfl
@[simp] theorem State.setF_mem (s : State) (v : Byte) : (s.setF v).mem = s.mem := rfl
@[simp] theorem State.setF_diag (s : State) (v : Byte) : (s.setF v).diag = s.diag := rfl
@[simp] theorem State.setF_cycles (s : State) (v : Byte) : (s.setF v).cycles = s.cycles := rfl
@[simp] theorem State.setF_budget (s : State) (v : Byte) : (s.setF v).budget = s.budget := rfl
@[simp] theorem State.setF_params (s : State) (v : Byte) : (s.setF v).params = s.params := rfl
@[simp] theorem State.setF_cpu_a (s : State) (v : Byte) : (s.setF v).cpu.a = s.cpu.a := rfl
@[simp] theorem State.setF_cpu_f (s : State) (v : Byte) : (s.setF v).cpu.f = v &&& 0xF0 := rfl
@[simp] theorem State.setF_cpu_b (s : State) (v : Byte) : (s.setF v).cpu.b = s.cpu.b := rfl
@[simp] theorem State.setF_cpu_c (s : State) (v : Byte) : (s.setF v).cpu.c = s.cpu.c := rfl
@[simp] theorem State.setF_cpu_d (s : State) (v : Byte) : (s.setF v).cpu.d = s.cpu.d := rfl
@[simp] theorem State.setF_cpu_e (s : State) (v : Byte) : (s.setF v).cpu.e = s.cpu.e := rfl
@[simp] theorem State.setF_cpu_h (s : State) (v : Byte) : (s.setF v).cpu.h = s.cpu.h := rfl
@[simp] theorem State.setF_cpu_l (s : State) (v : Byte) : (s.setF v).cpu.l = s.cpu.l := rfl
@[simp] theorem State.setF_cpu_sp (s : State) (v : Byte) : (s.setF v).cpu.sp = s.cpu.sp := rfl
@[simp] theorem State.setF_cpu_pc (s : State) (v : Byte) : (s.setF v).cpu.pc = s.cpu.pc := rfl
@[simp] theorem State.setF_cpu_ime (s : State) (v : Byte) : (s.setF v).cpu.ime = s.cpu.ime := rfl
@[simp] theorem State.setF_cpu_imeEnableDelay (s : State) (v : Byte) : (s.setF v).cpu.imeEnableDelay = s.cpu.imeEnableDelay := rfl
@[simp] theorem State.setF_cpu_imeDisableDelay (s : State) (v : Byte) : (s.setF v).cpu.imeDisableDelay = s.cpu.imeDisableDelay := rfl
@[simp] theorem State.setF_cpu_halted (s : State) (v : Byte) : (s.setF v).cpu.halted = s.cpu.halted := rfl
@[simp] theorem State.setF_cpu_stopped (s : State) (v : Byte) : (s.setF v).cpu.stopped = s.cpu.stopped := rfl
@[simp] theorem State.setF_getReg (s : State) (v : Byte) (q : Reg8) : (s.setF v).getReg q = s.getReg q := by cases q <;> rfl
@[simp] theorem State.setF_hl (s : State) (v : Byte) : (s.setF v).hl = s.hl := rfl
@[simp] theorem State.setF_bc (s : State) (v : Byte) : (s.setF v).bc = s.bc := rfl
@[simp] theorem State.setF_de (s : State) (v : Byte) : (s.setF v).de = s.de := rfl
@[simp] theorem State.setF_peek (s : State) (v : Byte) (a : Word) : (s.setF v).peek a = s.peek a := rfl
@[simp] theorem State.setF_cellOf (s : State) (v : Byte) (a : Word) : (s.setF v).cellOf a = s.cellOf a := rfl

/-! ### setPc -/

@[simp] theorem State.setPc_irq (s : State) (w : Word) : (s.setPc w).irq = s.irq := rfl
@[simp] theorem State.setPc_timer (s : State) (w : Word) : (s.setPc w).timer = s.timer := rfl
@[simp] theorem State.setPc_ppu (s : State) (w : Word) : (s.setPc w).ppu = s.ppu := rfl
@[simp] theorem State.setPc_dma (s : State) (w : Word) : (s.setPc w).dma = s.dma := rfl
@[simp] theorem State.setPc_joypad (s : State) (w : Word) : (s.setPc w).joypad = s.joypad := rfl
@[simp] theorem State.setPc_serial (s : State) (w : Word) : (s.setPc w).serial = s.serial := rfl
@[simp] theorem State.setPc_cart (s : State) (w : Word) : (s.setPc w).cart = s.cart := rfl
@[simp] theorem State.setPc_mem (s : State) (w : Word) : (s.setPc w).mem = s.mem := rfl
@[simp] theorem State.setPc_diag (s : State) (w : Word) : (s.setPc w).diag = s.diag := rfl
@[simp] theorem State.setPc_cycles (s : State) (w : Word) : (s.setPc w).cycles = s.cycles := rfl
@[simp] theorem State.setPc_budget (s : State) (w : Word) : (s.setPc w).budget = s.budget := rfl
@[simp] theorem State.setPc_params (s : State) (w : Word) : (s.setPc w).params = s.params := rfl
@[simp] theorem State.setPc_cpu_a (s : State) (w : Word) : (s.setPc w).cpu.a = s.cpu.a := rfl
@[simp] theorem State.setPc_cpu_f (s : State) (w : Word) : (s.setPc w).cpu.f = s.cpu.f := rfl
@[simp] theorem State.setPc_cpu_b (s : State) (w : Word) : (s.setPc w).cpu.b = s.cpu.b := rfl
@[simp] theorem State.setPc_cpu_c (s : State) (w : Word) : (s.setPc w).cpu.c = s.cpu.c := rfl
@[simp] theorem State.setPc_cpu_d (s : State) (w : Word) : (s.setPc w).cpu.d = s.cpu.d := rfl
@[simp] theorem State.setPc_cpu_e (s : State) (w : Word) : (s.setPc w).cpu.e = s.cpu.e := rfl
@[simp] theorem State.setPc_cpu_h (s : State) (w : Word) : (s.setPc w).cpu.h = s.cpu.h := rfl
@[simp] theorem State.setPc_cpu_l (s : State) (w : Word) : (s.setPc w).cpu.l = s.cpu.l := rfl
@[simp] theorem State.setPc_cpu_sp (s : State) (w : Word) : (s.setPc w).cpu.sp = s.cpu.sp := rfl
@[simp] theorem State.setPc_cpu_pc (s : State) (w : Word) : (s.setPc w).cpu.pc = w := rfl
@[simp] theorem State.setPc_cpu_ime (s : State) (w : Word) : (s.setPc w).cpu.ime = s.cpu.ime := rfl
@[simp] theorem State.setPc_cpu_imeEnableDelay (s : State) (w : Word) : (s.setPc w).cpu.imeEnableDelay = s.cpu.imeEnableDelay := rfl
@[simp] theorem State.setPc_cpu_imeDisableDelay (s : State) (w : Word) : (s.setPc w).cpu.imeDisableDelay = s.cpu.imeDisableDelay := rfl
@[simp] theorem State.setPc_cpu_halted (s : State) (w : Word) : (s.setPc w).cpu.halted = s.cpu.halted := rfl
@[simp] theorem State.setPc_cpu_stopped (s : State) (w : Word) : (s.setPc w).cpu.stopped = s.cpu.stopped := rfl
@[simp] theorem State.setPc_getReg (s : State) (w : Word) (q : Reg8) : (s.setPc w).getReg q = s.getReg q := by cases q <;> rfl
@[simp] theorem State.setPc_hl (s : State) (w : Word) : (s.setPc w).hl = s.hl := rfl
@[simp] theorem State.setPc_bc (s : State) (w : Word) : (s.setPc w).bc = s.bc := rfl
@[simp] theorem State.setPc_de (s : State) (w : Word) : (s.setPc w).de = s.de := rfl
@[simp] theorem State.setPc_af (s : State) (w : Word) : (s.setPc w).af = s.af := rfl
@[simp] theorem State.setPc_flags (s : State) (w : Word) : (s.setPc w).flags = s.flags := rfl
@[simp] theorem State.setPc_peek (s : State) (w : Word) (a : Word) : (s.setPc w).peek a = s.peek a := rfl
@[simp] theorem State.setPc_cellOf (s : State) (w : Word) (a : Word) : (s.setPc w).cellOf a = s.cellOf a := rfl

/-! ### setSp -/

@[simp] theorem State.setSp_irq (s : State) (w : Word) : (s.setSp w).irq = s.irq := rfl
@[simp] theorem State.setSp_timer (s : State) (w : Word) : (s.setSp w).timer = s.timer := rfl
@[simp] theorem State.setSp_ppu (s : State) (w : Word) : (s.setSp w).ppu = s.ppu := rfl
@[simp] theorem State.setSp_dma (s : State) (w : Word) : (s.setSp w).dma = s.dma := rfl
@[simp] theorem State.setSp_joypad (s : State) (w : Word) : (s.setSp w).joypad = s.joypad := rfl
@[simp] theorem State.setSp_serial (s : State) (w : Word) : (s.setSp w).serial = s.serial := rfl
@[simp] theorem State.setSp_cart (s : State) (w : Word) : (s.setSp w).cart = s.cart := rfl
@[simp] theorem State.setSp_mem (s : State) (w : Word) : (s.setSp w).mem = s.mem := rfl
@[simp] theorem State.setSp_diag (s : State) (w : Word) : (s.setSp w).diag = s.diag := rfl
@[simp] theorem State.setSp_cycles (s : State) (w : Word) : (s.setSp w).cycles = s.cycles := rfl
@[simp] theorem State.setSp_budget (s : State) (w : Word) : (s.setSp w).budget = s.budget := rfl
@[simp] theorem State.setSp_params (s : State) (w : Word) : (s.setSp w).params = s.params := rfl
@[simp] theorem State.setSp_cpu_a (s : State) (w : Word) : (s.setSp w).cpu.a = s.cpu.a := rfl
@[simp] theorem State.setSp_cpu_f (s : State) (w : Word) : (s.setSp w).cpu.f = s.cpu.f := rfl
@[simp] theorem State.setSp_cpu_b (s : State) (w : Word) : (s.setSp w).cpu.b = s.cpu.b := rfl
@[simp] theorem State.setSp_cpu_c (s : State) (w : Word) : (s.setSp w).cpu.c = s.cpu.c := rfl
@[simp] theorem State.setSp_cpu_d (s : State) (w : Word) : (s.setSp w).cpu.d = s.cpu.d := rfl
@[simp] theorem State.setSp_cpu_e (s : State) (w : Word) : (s.setSp w).cpu.e = s.cpu.e := rfl
@[simp] theorem State.setSp_cpu_h (s : State) (w : Word) : (s.setSp w).cpu.h = s.cpu.h := rfl
@[simp] theorem State.setSp_cpu_l (s : State) (w : Word) : (s.setSp w).cpu.l = s.cpu.l := rfl
@[simp] theorem State.setSp_cpu_sp (s : State) (w : Word) : (s.setSp w).cpu.sp = w := rfl
@[simp] theorem State.setSp_cpu_pc (s : State) (w : Word) : (s.setSp w).cpu.pc = s.cpu.pc := rfl
@[simp] theorem State.setSp_cpu_ime (s : State) (w : Word) : (s.setSp w).cpu.ime = s.cpu.ime := rfl
@[simp] theorem State.setSp_cpu_imeEnableDelay (s : State) (w : Word) : (s.setSp w).cpu.imeEnableDelay = s.cpu.imeEnableDelay := rfl
@[simp] theorem State.setSp_cpu_imeDisableDelay (s : State) (w : Word) : (s.setSp w).cpu.imeDisableDelay = s.cpu.imeDisableDelay := rfl
@[simp] theorem State.setSp_cpu_halted (s : State) (w : Word) : (s.setSp w).cpu.halted = s.cpu.halted := rfl
@[simp] theorem State.setSp_cpu_stopped (s : State) (w : Word) : (s.setSp w).cpu.stopped = s.cpu.stopped := rfl
@[simp] theorem State.setSp_getReg (s : State) (w : Word) (q : Reg8) : (s.setSp w).getReg q = s.getReg q := by cases q <;> rfl
@[simp] theorem State.setSp_hl (s : State) (w : Word) : (s.setSp w).hl = s.hl := rfl
@[simp] theorem State.setSp_bc (s : State) (w : Word) : (s.setSp w).bc = s.bc := rfl
@[simp] theorem State.setSp_de (s : State) (w : Word) : (s.setSp w).de = s.de := rfl
@[simp] theorem State.setSp_af (s : State) (w : Word) : (s.setSp w).af = s.af := rfl
@[simp] theorem State.setSp_flags (s : State) (w : Word) : (s.setSp w).flags = s.flags := rfl
@[simp] theorem State.setSp_peek (s : State) (w : Word) (a : Word) : (s.setSp w).peek a = s.peek a := rfl
@[simp] theorem State.setSp_cellOf (s : State) (w : Word) (a : Word) : (s.setSp w).cellOf a = s.cellOf a := rfl

/-! ### setIme -/

@[simp] theorem State.setIme_irq (s : State) (v : Bool) : (s.setIme v).irq = s.irq := rfl
@[simp] theorem State.setIme_timer (s : State) (v : Bool) : (s.setIme v).timer = s.timer := rfl
@[simp] theorem State.setIme_ppu (s : State) (v : Bool) : (s.setIme v).ppu = s.ppu := rfl
@[simp] theorem State.setIme_dma (s : State) (v : Bool) : (s.setIme v).dma = s.dma := rfl
@[simp] theorem State.setIme_joypad (s : State) (v : Bool) : (s.setIme v).joypad = s.joypad := rfl
@[simp] theorem State.setIme_serial (s : State) (v : Bool) : (s.setIme v).serial = s.serial := rfl
@[simp] theorem State.setIme_cart (s : State) (v : Bool) : (s.setIme v).cart = s.cart := rfl
@[simp] theorem State.setIme_mem (s : State) (v : Bool) : (s.setIme v).mem = s.mem := rfl
@[simp] theorem State.setIme_diag (s : State) (v : Bool) : (s.setIme v).diag = s.diag := rfl
@[simp] theorem State.setIme_cycles (s : State) (v : Bool) : (s.setIme v).cycles = s.cycles := rfl
@[simp] theorem State.setIme_budget (s : State) (v : Bool) : (s.setIme v).budget = s.budget := rfl
@[simp] theorem State.setIme_params (s : State) (v : Bool) : (s.setIme v).params = s.params := rfl
@[simp] theorem State.setIme_cpu_a (s : State) (v : Bool) : (s.setIme v).cpu.a = s.cpu.a := rfl
@[simp] theorem State.setIme_cpu_f (s : State) (v : Bool) : (s.setIme v).cpu.f = s.cpu.f := rfl
@[simp] theorem State.setIme_cpu_b (s : State) (v : Bool) : (s.setIme v).cpu.b = s.cpu.b := rfl
@[simp] theorem State.setIme_cpu_c (s : State) (v : Bool) : (s.setIme v).cpu.c = s.cpu.c := rfl
@[simp] theorem State.setIme_cpu_d (s : State) (v : Bool) : (s.setIme v).cpu.d = s.cpu.d := rfl
@[simp] theorem State.setIme_cpu_e (s : State) (v : Bool) : (s.setIme v).cpu.e = s.cpu.e := rfl
@[simp] theorem State.setIme_cpu_h (s : State) (v : Bool) : (s.setIme v).cpu.h = s.cpu.h := rfl
@[simp] theorem State.setIme_cpu_l (s : State) (v : Bool) : (s.setIme v).cpu.l = s.cpu.l := rfl
@[simp] theorem State.setIme_cpu_sp (s : State) (v : Bool) : (s.setIme v).cpu.sp = s.cpu.sp := rfl
@[simp] theorem State.setIme_cpu_pc (s : State) (v : Bool) : (s.setIme v).cpu.pc = s.cpu.pc := rfl
@[simp] theorem State.setIme_cpu_ime (s : State) (v : Bool) : (s.setIme v).cpu.ime = v := rfl
@[simp] theorem State.setIme_cpu_imeEnableDelay (s : State) (v : Bool) : (s.setIme v).cpu.imeEnableDelay = s.cpu.imeEnableDelay := rfl
@[simp] theorem State.setIme_cpu_imeDisableDelay (s : State) (v : Bool) : (s.setIme v).cpu.imeDisableDelay = s.cpu.imeDisableDelay := rfl
@[simp] theorem State.setIme_cpu_halted (s : State) (v : Bool) : (s.setIme v).cpu.halted = s.cpu.halted := rfl
@[simp] theorem State.setIme_cpu_stopped (s : State) (v : Bool) : (s.setIme v).cpu.stopped = s.cpu.stopped := rfl
@[simp] theorem State.setIme_getReg (s : State) (v : Bool) (q : Reg8) : (s.setIme v).getReg q = s.getReg q := by cases q <;> rfl
@[simp] theorem State.setIme_hl (s : State) (v : Bool) : (s.setIme v).hl = s.hl := rfl
@[simp] theorem State.setIme_bc (s : State) (v : Bool) : (s.setIme v).bc = s.bc := rfl
@[simp] theorem State.setIme_de (s : State) (v : Bool) : (s.setIme v).de = s.de := rfl
@[simp] theorem State.setIme_af (s : State) (v : Bool) : (s.setIme v).af = s.af := rfl
@[simp] theorem State.setIme_flags (s : State) (v : Bool) : (s.setIme v).flags = s.flags := rfl
@[simp] theorem State.setIme_peek (s : State) (v : Bool) (a : Word) : (s.setIme v).peek a = s.peek a := rfl
@[simp] theorem State.setIme_cellOf (s : State) (v : Bool) (a : Word) : (s.setIme v).cellOf a = s.cellOf a := rfl

/-! ### setHalted -/

@[simp] theorem State.setHalted_irq (s : State) (v : Bool) : (s.setHalted v).irq = s.irq := rfl
@[simp] theorem State.setHalted_timer (s : State) (v : Bool) : (s.setHalted v).timer = s.timer := rfl
@[simp] theorem State.setHalted_ppu (s : State) (v : Bool) : (s.setHalted v).ppu = s.ppu := rfl
@[simp] theorem State.setHalted_dma (s : State) (v : Bool) : (s.setHalted v).dma = s.dma := rfl
@[simp] theorem State.setHalted_joypad (s : State) (v : Bool) : (s.setHalted v).joypad = s.joypad := rfl
@[simp] theorem State.setHalted_serial (s : State) (v : Bool) : (s.setHalted v).serial = s.serial := rfl
@[simp] theorem State.setHalted_cart (s : State) (v : Bool) : (s.setHalted v).cart = s.cart := rfl
@[simp] theorem State.setHalted_mem (s : State) (v : Bool) : (s.setHalted v).mem = s.mem := rfl
@[simp] theorem State.setHalted_diag (s : State) (v : Bool) : (s.setHalted v).diag = s.diag := rfl
@[simp] theorem State.setHalted_cycles (s : State) (v : Bool) : (s.setHalted v).cycles = s.cycles := rfl
@[simp] theorem State.setHalted_budget (s : State) (v : Bool) : (s.setHalted v).budget = s.budget := rfl
@[simp] theorem State.setHalted_params (s : State) (v : Bool) : (s.setHalted v).params = s.params := rfl
@[simp] theorem State.setHalted_cpu_a (s : State) (v : Bool) : (s.setHalted v).cpu.a = s.cpu.a := rfl
@[simp] theorem State.setHalted_cpu_f (s : State) (v : Bool) : (s.setHalted v).cpu.f = s.cpu.f := rfl
@[simp] theorem State.setHalted_cpu_b (s : State) (v : Bool) : (s.setHalted v).cpu.b = s.cpu.b := rfl
@[simp] theorem State.setHalted_cpu_c (s : State) (v : Bool) : (s.setHalted v).cpu.c = s.cpu.c := rfl
@[simp] theorem State.setHalted_cpu_d (s : State) (v : Bool) : (s.setHalted v).cpu.d = s.cpu.d := rfl
@[simp] theorem State.setHalted_cpu_e (s : State) (v : Bool) : (s.setHalted v).cpu.e = s.cpu.e := rfl
@[simp] theorem State.setHalted_cpu_h (s : State) (v : Bool) : (s.setHalted v).cpu.h = s.cpu.h := rfl
@[simp] theorem State.setHalted_cpu_l (s : State) (v : Bool) : (s.setHalted v).cpu.l = s.cpu.l := rfl
@[simp] theorem State.setHalted_cpu_sp (s : State) (v : Bool) : (s.setHalted v).cpu.sp = s.cpu.sp := rfl
@[simp] theorem State.setHalted_cpu_pc (s : State) (v : Bool) : (s.setHalted v).cpu.pc = s.cpu.pc := rfl
@[simp] theorem State.setHalted_cpu_ime (s : State) (v : Bool) : (s.setHalted v).cpu.ime = s.cpu.ime := rfl
@[simp] theorem State.setHalted_cpu_imeEnableDelay (s : State) (v : Bool) : (s.setHalted v).cpu.imeEnableDelay = s.cpu.imeEnableDelay := rfl
@[simp] theorem State.setHalted_cpu_imeDisableDelay (s : State) (v : Bool) : (s.setHalted v).cpu.imeDisableDelay = s.cpu.imeDisableDelay := rfl
@[simp] theorem State.setHalted_cpu_halted (s : State) (v : Bool) : (s.setHalted v).cpu.halted = v := rfl
@[simp] theorem State.setHalted_cpu_stopped (s : State) (v : Bool) : (s.setHalted v).cpu.stopped = s.cpu.stopped := rfl
@[simp] theorem State.setHalted_getReg (s : State) (v : Bool) (q : Reg8) : (s.setHalted v).getReg q = s.getReg q := by cases q <;> rfl
@[simp] theorem State.setHalted_hl (s : State) (v : Bool) : (s.setHalted v).hl = s.hl := rfl
@[simp] theorem State.setHalted_bc (s : State) (v : Bool) : (s.setHalted v).bc = s.bc := rfl
@[simp] theorem State.setHalted_de (s : State) (v : Bool) : (s.setHalted v).de = s.de := rfl
@[simp] theorem State.setHalted_af (s : State) (v : Bool) : (s.setHalted v).af = s.af := rfl
@[simp] theorem State.setHalted_flags (s : State) (v : Bool) : (s.setHalted v).flags = s.flags := rfl
@[simp] theorem State.setHalted_peek (s : State) (v : Bool) (a : Word) : (s.setHalted v).peek a = s.peek a := rfl
@[simp] theorem State.setHalted_cellOf (s : State) (v : Bool) (a : Word) : (s.setHalted v).cellOf a = s.cellOf a := rfl

/-! ### setStopped -/

@[simp] theorem State.setStopped_irq (s : State) (v : Bool) : (s.setStopped v).irq = s.irq := rfl
@[simp] theorem State.setStopped_timer (s : State) (v : Bool) : (s.setStopped v).timer = s.timer := rfl
@[simp] theorem State.setStopped_ppu (s : State) (v : Bool) : (s.setStopped v).ppu = s.ppu := rfl
@[simp] theorem State.setStopped_dma (s : State) (v : Bool) : (s.setStopped v).dma = s.dma := rfl
@[simp] theorem State.setStopped_joypad (s : State) (v : Bool) : (s.setStopped v).joypad = s.joypad := rfl
@[simp] theorem State.setStopped_serial (s : State) (v : Bool) : (s.setStopped v).serial = s.serial := rfl
@[simp] theorem State.setStopped_cart (s : State) (v : Bool) : (s.setStopped v).cart = s.cart := rfl
@[simp] theorem State.setStopped_mem (s : State) (v : Bool) : (s.setStopped v).mem = s.mem := rfl
@[simp] theorem State.setStopped_diag (s : State) (v : Bool) : (s.setStopped v).diag = s.diag := rfl
@[simp] theorem State.setStopped_cycles (s : State) (v : Bool) : (s.setStopped v).cycles = s.cycles := rfl
@[simp] theorem State.setStopped_budget (s : State) (v : Bool) : (s.setStopped v).budget = s.budget := rfl
@[simp] theorem State.setStopped_params (s : State) (v : Bool) : (s.setStopped v).params = s.params := rfl
@[simp] theorem State.setStopped_cpu_a (s : State) (v : Bool) : (s.setStopped v).cpu.a = s.cpu.a := rfl
@[simp] theorem State.setStopped_cpu_f (s : State) (v : Bool) : (s.setStopped v).cpu.f = s.cpu.f := rfl
@[simp] theorem State.setStopped_cpu_b (s : State) (v : Bool) : (s.setStopped v).cpu.b = s.cpu.b := rfl
@[simp] theorem State.setStopped_cpu_c (s : State) (v : Bool) : (s.setStopped v).cpu.c = s.cpu.c := rfl
@[simp] theorem State.setStopped_cpu_d (s : State) (v : Bool) : (s.setStopped v).cpu.d = s.cpu.d := rfl
@[simp] theorem State.setStopped_cpu_e (s : State) (v : Bool) : (s.setStopped v).cpu.e = s.cpu.e := rfl
@[simp] theorem State.setStopped_cpu_h (s : State) (v : Bool) : (s.setStopped v).cpu.h = s.cpu.h := rfl
@[simp] theorem State.setStopped_cpu_l (s : State) (v : Bool) : (s.setStopped v).cpu.l = s.cpu.l := rfl
@[simp] theorem State.setStopped_cpu_sp (s : State) (v : Bool) : (s.setStopped v).cpu.sp = s.cpu.sp := rfl
@[simp] theorem State.setStopped_cpu_pc (s : State) (v : Bool) : (s.setStopped v).cpu.pc = s.cpu.pc := rfl
@[simp] theorem State.setStopped_cpu_ime (s : State) (v : Bool) : (s.setStopped v).cpu.ime = s.cpu.ime := rfl
@[simp] theorem State.setStopped_cpu_imeEnableDelay (s : State) (v : Bool) : (s.setStopped v).cpu.imeEnableDelay = s.cpu.imeEnableDelay := rfl
@[simp] theorem State.setStopped_cpu_imeDisableDelay (s : State) (v : Bool) : (s.setStopped v).cpu.imeDisableDelay = s.cpu.imeDisableDelay := rfl
@[simp] theorem State.setStopped_cpu_halted (s : State) (v : Bool) : (s.setStopped v).cpu.halted = s.cpu.halted := rfl
@[simp] theorem State.setStopped_cpu_stopped (s : State) (v : Bool) : (s.setStopped v).cpu.stopped = v := rfl
@[simp] theorem State.setStopped_getReg (s : State) (v : Bool) (q : Reg8) : (s.setStopped v).getReg q = s.getReg q := by cases q <;> rfl
@[simp] theorem State.setStopped_hl (s : State) (v : Bool) : (s.setStopped v).hl = s.hl := rfl
@[simp] theorem State.setStopped_bc (s : State) (v : Bool) : (s.setStopped v).bc = s.bc := rfl
@[simp] theorem State.setStopped_de (s : State) (v : Bool) : (s.setStopped v).de = s.de := rfl
@[simp] theorem State.setStopped_af (s : State) (v : Bool) : (s.setStopped v).af = s.af := rfl
@[simp] theorem State.setStopped_flags (s : State) (v : Bool) : (s.setStopped v).flags = s.flags := rfl
@[simp] theorem State.setStopped_peek (s : State) (v : Bool) (a : Word) : (s.setStopped v).peek a = s.peek a := rfl
@[simp] theorem State.setStopped_cellOf (s : State) (v : Bool) (a : Word) : (s.setStopped v).cellOf a = s.cellOf a := rfl

/-! ### scheduleEnable -/

@[simp] theorem State.scheduleEnable_irq (s : State) (n : Nat) : (s.scheduleEnable n).irq = s.irq := rfl
@[simp] theorem State.scheduleEnable_timer (s : State) (n : Nat) : (s.scheduleEnable n).timer = s.timer := rfl
@[simp] theorem State.scheduleEnable_ppu (s : State) (n : Nat) : (s.scheduleEnable n).ppu = s.ppu := rfl
@[simp] theorem State.scheduleEnable_dma (s : State) (n : Nat) : (s.scheduleEnable n).dma = s.dma := rfl
@[simp] theorem State.scheduleEnable_joypad (s : State) (n : Nat) : (s.scheduleEnable n).joypad = s.joypad := rfl
@[simp] theorem State.scheduleEnable_serial (s : State) (n : Nat) : (s.scheduleEnable n).serial = s.serial := rfl
@[simp] theorem State.scheduleEnable_cart (s : State) (n : Nat) : (s.scheduleEnable n).cart = s.cart := rfl
@[simp] theorem State.scheduleEnable_mem (s : State) (n : Nat) : (s.scheduleEnable n).mem = s.mem := rfl
@[simp] theorem State.scheduleEnable_diag (s : State) (n : Nat) : (s.scheduleEnable n).diag = s.diag := rfl
@[simp] theorem State.scheduleEnable_cycles (s : State) (n : Nat) : (s.scheduleEnable n).cycles = s.cycles := rfl
@[simp] theorem State.scheduleEnable_budget (s : State) (n : Nat) : (s.scheduleEnable n).budget = s.budget := rfl
@[simp] theorem State.scheduleEnable_params (s : State) (n : Nat) : (s.scheduleEnable n).params = s.params := rfl
@[simp] theorem State.scheduleEnable_cpu_a (s : State) (n : Nat) : (s.scheduleEnable n).cpu.a = s.cpu.a := rfl
@[simp] theorem State.scheduleEnable_cpu_f (s : State) (n : Nat) : (s.scheduleEnable n).cpu.f = s.cpu.f := rfl
@[simp] theorem State.scheduleEnable_cpu_b (s : State) (n : Nat) : (s.scheduleEnable n).cpu.b = s.cpu.b := rfl
@[simp] theorem State.scheduleEnable_cpu_c (s : State) (n : Nat) : (s.scheduleEnable n).cpu.c = s.cpu.c := rfl
@[simp] theorem State.scheduleEnable_cpu_d (s : State) (n : Nat) : (s.scheduleEnable n).cpu.d = s.cpu.d := rfl
@[simp] theorem State.scheduleEnable_cpu_e (s : State) (n : Nat) : (s.scheduleEnable n).cpu.e = s.cpu.e := rfl
@[simp] theorem State.scheduleEnable_cpu_h (s : State) (n : Nat) : (s.scheduleEnable n).cpu.h = s.cpu.h := rfl
@[simp] theorem State.scheduleEnable_cpu_l (s : State) (n : Nat) : (s.scheduleEnable n).cpu.l = s.cpu.l := rfl
@[simp] theorem State.scheduleEnable_cpu_sp (s : State) (n : Nat) : (s.scheduleEnable n).cpu.sp = s.cpu.sp := rfl
@[simp] theorem State.scheduleEnable_cpu_pc (s : State) (n : Nat) : (s.scheduleEnable n).cpu.pc = s.cpu.pc := rfl
@[simp] theorem State.scheduleEnable_cpu_ime (s : State) (n : Nat) : (s.scheduleEnable n).cpu.ime = s.cpu.ime := rfl
@[simp] theorem State.scheduleEnable_cpu_imeEnableDelay (s : State) (n : Nat) : (s.scheduleEnable n).cpu.imeEnableDelay = some n := rfl
@[simp] theorem State.scheduleEnable_cpu_imeDisableDelay (s : State) (n : Nat) : (s.scheduleEnable n).cpu.imeDisableDelay = s.cpu.imeDisableDelay := rfl
@[simp] theorem State.scheduleEnable_cpu_halted (s : State) (n : Nat) : (s.scheduleEnable n).cpu.halted = s.cpu.halted := rfl
@[simp] theorem State.scheduleEnable_cpu_stopped (s : State) (n : Nat) : (s.scheduleEnable n).cpu.stopped = s.cpu.stopped := rfl
@[simp] theorem State.scheduleEnable_getReg (s : State) (n : Nat) (q : Reg8) : (s.scheduleEnable n).getReg q = s.getReg q := by cases q <;> rfl
@[simp] theorem State.scheduleEnable_hl (s : State) (n : Nat) : (s.scheduleEnable n).hl = s.hl := rfl
@[simp] theorem State.scheduleEnable_bc (s : State) (n : Nat) : (s.scheduleEnable n).bc = s.bc := rfl
@[simp] theorem State.scheduleEnable_de (s : State) (n : Nat) : (s.scheduleEnable n).de = s.de := rfl
@[simp] theorem State.scheduleEnable_af (s : State) (n : Nat) : (s.scheduleEnable n).af = s.af := rfl
@[simp] theorem State.scheduleEnable_flags (s : State) (n : Nat) : (s.scheduleEnable n).flags = s.flags := rfl
@[simp] theorem State.scheduleEnable_peek (s : State) (n : Nat) (a : Word) : (s.scheduleEnable n).peek a = s.peek a := rfl
@[simp] theorem State.scheduleEnable_cellOf (s : State) (n : Nat) (a : Word) : (s.scheduleEnable n).cellOf a = s.cellOf a := rfl

/-! ### scheduleDisable -/

@[simp] theorem State.scheduleDisable_irq (s : State) (n : Nat) : (s.scheduleDisable n).irq = s.irq := rfl
@[simp] theorem State.scheduleDisable_timer (s : State) (n : Nat) : (s.scheduleDisable n).timer = s.timer := rfl
@[simp] theorem State.scheduleDisable_ppu (s : State) (n : Nat) : (s.scheduleDisable n).ppu = s.ppu := rfl
@[simp] theorem State.scheduleDisable_dma (s : State) (n : Nat) : (s.scheduleDisable n).dma = s.dma := rfl
@[simp] theorem State.scheduleDisable_joypad (s : State) (n : Nat) : (s.scheduleDisable n).joypad = s.joypad := rfl
@[simp] theorem State.scheduleDisable_serial (s : State) (n : Nat) : (s.scheduleDisable n).serial = s.serial := rfl
@[simp] theorem State.scheduleDisable_cart (s : State) (n : Nat) : (s.scheduleDisable n).cart = s.cart := rfl
@[simp] theorem State.scheduleDisable_mem (s : State) (n : Nat) : (s.scheduleDisable n).mem = s.mem := rfl
@[simp] theorem State.scheduleDisable_diag (s : State) (n : Nat) : (s.scheduleDisable n).diag = s.diag := rfl
@[simp] theorem State.scheduleDisable_cycles (s : State) (n : Nat) : (s.scheduleDisable n).cycles = s.cycles := rfl
@[simp] theorem State.scheduleDisable_budget (s : State) (n : Nat) : (s.scheduleDisable n).budget = s.budget := rfl
@[simp] theorem State.scheduleDisable_params (s : State) (n : Nat) : (s.scheduleDisable n).params = s.params := rfl
@[simp] theorem State.scheduleDisable_cpu_a (s : State) (n : Nat) : (s.scheduleDisable n).cpu.a = s.cpu.a := rfl
@[simp] theorem State.scheduleDisable_cpu_f (s : State) (n : Nat) : (s.scheduleDisable n).cpu.f = s.cpu.f := rfl
@[simp] theorem State.scheduleDisable_cpu_b (s : State) (n : Nat) : (s.scheduleDisable n).cpu.b = s.cpu.b := rfl
@[simp] theorem State.scheduleDisable_cpu_c (s : State) (n : Nat) : (s.scheduleDisable n).cpu.c = s.cpu.c := rfl
@[simp] theorem State.scheduleDisable_cpu_d (s : State) (n : Nat) : (s.scheduleDisable n).cpu.d = s.cpu.d := rfl
@[simp] theorem State.scheduleDisable_cpu_e (s : State) (n : Nat) : (s.scheduleDisable n).cpu.e = s.cpu.e := rfl
@[simp] theorem State.scheduleDisable_cpu_h (s : State) (n : Nat) : (s.scheduleDisable n).cpu.h = s.cpu.h := rfl
@[simp] theorem State.scheduleDisable_cpu_l (s : State) (n : Nat) : (s.scheduleDisable n).cpu.l = s.cpu.l := rfl
@[simp] theorem State.scheduleDisable_cpu_sp (s : State) (n : Nat) : (s.scheduleDisable n).cpu.sp = s.cpu.sp := rfl
@[simp] theorem State.scheduleDisable_cpu_pc (s : State) (n : Nat) : (s.scheduleDisable n).cpu.pc = s.cpu.pc := rfl
@[simp] theorem State.scheduleDisable_cpu_ime (s : State) (n : Nat) : (s.scheduleDisable n).cpu.ime = s.cpu.ime := rfl
@[simp] theorem State.scheduleDisable_cpu_imeEnableDelay (s : State) (n : Nat) : (s.scheduleDisable n).cpu.imeEnableDelay = s.cpu.imeEnableDelay := rfl
@[simp] theorem State.scheduleDisable_cpu_imeDisableDelay (s : State) (n : Nat) : (s.scheduleDisable n).cpu.imeDisableDelay = some n := rfl
@[simp] theorem State.scheduleDisable_cpu_halted (s : State) (n : Nat) : (s.scheduleDisable n).cpu.halted = s.cpu.halted := rfl
@[simp] theorem State.scheduleDisable_cpu_stopped (s : State) (n : Nat) : (s.scheduleDisable n).cpu.stopped = s.cpu.stopped := rfl
@[simp] theorem State.scheduleDisable_getReg (s : State) (n : Nat) (q : Reg8) : (s.scheduleDisable n).getReg q = s.getReg q := by cases q <;> rfl
@[simp] theorem State.scheduleDisable_hl (s : State) (n : Nat) : (s.scheduleDisable n).hl = s.hl := rfl
@[simp] theorem State.scheduleDisable_bc (s : State) (n : Nat) : (s.scheduleDisable n).bc = s.bc := rfl
@[simp] theorem State.scheduleDisable_de (s : State) (n : Nat) : (s.scheduleDisable n).de = s.de := rfl
@[simp] theorem State.scheduleDisable_af (s : State) (n : Nat) : (s.scheduleDisable n).af = s.af := rfl
@[simp] theorem State.scheduleDisable_flags (s : State) (n : Nat) : (s.scheduleDisable n).flags = s.flags := rfl
@[simp] theorem State.scheduleDisable_peek (s : State) (n : Nat) (a : Word) : (s.scheduleDisable n).peek a = s.peek a := rfl
@[simp] theorem State.scheduleDisable_cellOf (s : State) (n : Nat) (a : Word) : (s.scheduleDisable n).cellOf a = s.cellOf a := rfl

/-! ### setCycles -/

@[simp] theorem State.setCycles_irq (s : State) (n : Nat) : (s.setCycles n).irq = s.irq := rfl
@[simp] theorem State.setCycles_timer (s : State) (n : Nat) : (s.setCycles n).timer = s.timer := rfl
@[simp] theorem State.setCycles_ppu (s : State) (n : Nat) : (s.setCycles n).ppu = s.ppu := rfl
@[simp] theorem State.setCycles_dma (s : State) (n : Nat) : (s.setCycles n).dma = s.dma := rfl
@[simp] theorem State.setCycles_joypad (s : State) (n : Nat) : (s.setCycles n).joypad = s.joypad := rfl
@[simp] theorem State.setCycles_serial (s : State) (n : Nat) : (s.setCycles n).serial = s.serial := rfl
@[simp] theorem State.setCycles_cart (s : State) (n : Nat) : (s.setCycles n).cart = s.cart := rfl
@[simp] theorem State.setCycles_mem (s : State) (n : Nat) : (s.setCycles n).mem = s.mem := rfl
@[simp] theorem State.setCycles_diag (s : State) (n : Nat) : (s.setCycles n).diag = s.diag := rfl
@[simp] theorem State.setCycles_cycles (s : State) (n : Nat) : (s.setCycles n).cycles = n := rfl
@[simp] theorem State.setCycles_budget (s : State) (n : Nat) : (s.setCycles n).budget = s.budget := rfl
@[simp] theorem State.setCycles_params (s : State) (n : Nat) : (s.setCycles n).params = s.params := rfl
@[simp] theorem State.setCycles_cpu_a (s : State) (n : Nat) : (s.setCycles n).cpu.a = s.cpu.a := rfl
@[simp] theorem State.setCycles_cpu_f (s : State) (n : Nat) : (s.setCycles n).cpu.f = s.cpu.f := rfl
@[simp] theorem State.setCycles_cpu_b (s : State) (n : Nat) : (s.setCycles n).cpu.b = s.cpu.b := rfl
@[simp] theorem State.setCycles_cpu_c (s : State) (n : Nat) : (s.setCycles n).cpu.c = s.cpu.c := rfl
@[simp] theorem State.setCycles_cpu_d (s : State) (n : Nat) : (s.setCycles n).cpu.d = s.cpu.d := rfl
@[simp] theorem State.setCycles_cpu_e (s : State) (n : Nat) : (s.setCycles n).cpu.e = s.cpu.e := rfl
@[simp] theorem State.setCycles_cpu_h (s : State) (n : Nat) : (s.setCycles n).cpu.h = s.cpu.h := rfl
@[simp] theorem State.setCycles_cpu_l (s : State) (n : Nat) : (s.setCycles n).cpu.l = s.cpu.l := rfl
@[simp] theorem State.setCycles_cpu_sp (s : State) (n : Nat) : (s.setCycles n).cpu.sp = s.cpu.sp := rfl
@[simp] theorem State.setCycles_cpu_pc (s : State) (n : Nat) : (s.setCycles n).cpu.pc = s.cpu.pc := rfl
@[simp] theorem State.setCycles_cpu_ime (s : State) (n : Nat) : (s.setCycles n).cpu.ime = s.cpu.ime := rfl
@[simp] theorem State.setCycles_cpu_imeEnableDelay (s : State) (n : Nat) : (s.setCycles n).cpu.imeEnableDelay = s.cpu.imeEnableDelay := rfl
@[simp] theorem State.setCycles_cpu_imeDisableDelay (s : State) (n : Nat) : (s.setCycles n).cpu.imeDisableDelay = s.cpu.imeDisableDelay := rfl
@[simp] theorem State.setCycles_cpu_halted (s : State) (n : Nat) : (s.setCycles n).cpu.halted = s.cpu.halted := rfl
@[simp] theorem State.setCycles_cpu_stopped (s : State) (n : Nat) : (s.setCycles n).cpu.stopped = s.cpu.stopped := rfl
@[simp] theorem State.setCycles_getReg (s : State) (n : Nat) (q : Reg8) : (s.setCycles n).getReg q = s.getReg q := by cases q <;> rfl
@[simp] theorem State.setCycles_hl (s : State) (n : Nat) : (s.setCycles n).hl = s.hl := rfl
@[simp] theorem State.setCycles_bc (s : State) (n : Nat) : (s.setCycles n).bc = s.bc := rfl
@[simp] theorem State.setCycles_de (s : State) (n : Nat) : (s.setCycles n).de = s.de := rfl
@[simp] theorem State.setCycles_af (s : State) (n : Nat) : (s.setCycles n).af = s.af := rfl
@[simp] theorem State.setCycles_flags (s : State) (n : Nat) : (s.setCycles n).flags = s.flags := rfl
@[simp] theorem State.setCycles_peek (s : State) (n : Nat) (a : Word) : (s.setCycles n).peek a = s.peek a := rfl
@[simp] theorem State.setCycles_cellOf (s : State) (n : Nat) (a : Word) : (s.setCycles n).cellOf a = s.cellOf a := rfl

/-! ### setHl -/

@[simp] theorem State.setHl_irq (s : State) (w : Word) : (s.setHl w).irq = s.irq := rfl
@[simp] theorem State.setHl_timer (s : State) (w : Word) : (s.setHl w).timer = s.timer := rfl
@[simp] theorem State.setHl_ppu (s : State) (w : Word) : (s.setHl w).ppu = s.ppu := rfl
@[simp] theorem State.setHl_dma (s : State) (w : Word) : (s.setHl w).dma = s.dma := rfl
@[simp] theorem State.setHl_joypad (s : State) (w : Word) : (s.setHl w).joypad = s.joypad := rfl
@[simp] theorem State.setHl_serial (s : State) (w : Word) : (s.setHl w).serial = s.serial := rfl
@[simp] theorem State.setHl_cart (s : State) (w : Word) : (s.setHl w).cart = s.cart := rfl
@[simp] theorem State.setHl_mem (s : State) (w : Word) : (s.setHl w).mem = s.mem := rfl
@[simp] theorem State.setHl_diag (s : State) (w : Word) : (s.setHl w).diag = s.diag := rfl
@[simp] theorem State.setHl_cycles (s : State) (w : Word) : (s.setHl w).cycles = s.cycles := rfl
@[simp] theorem State.setHl_budget (s : State) (w : Word) : (s.setHl w).budget = s.budget := rfl
@[simp] theorem State.setHl_params (s : State) (w : Word) : (s.setHl w).params = s.params := rfl
@[simp] theorem State.setHl_cpu_a (s : State) (w : Word) : (s.setHl w).cpu.a = s.cpu.a := rfl
@[simp] theorem State.setHl_cpu_f (s : State) (w : Word) : (s.setHl w).cpu.f = s.cpu.f := rfl
@[simp] theorem State.setHl_cpu_b (s : State) (w : Word) : (s.setHl w).cpu.b = s.cpu.b := rfl
@[simp] theorem State.setHl_cpu_c (s : State) (w : Word) : (s.setHl w).cpu.c = s.cpu.c := rfl
@[simp] theorem State.setHl_cpu_d (s : State) (w : Word) : (s.setHl w).cpu.d = s.cpu.d := rfl
@[simp] theorem State.setHl_cpu_e (s : State) (w : Word) : (s.setHl w).cpu.e = s.cpu.e := rfl
@[simp] theorem State.setHl_cpu_h (s : State) (w : Word) : (s.setHl w).cpu.h = hiByte w := rfl
@[simp] theorem State.setHl_cpu_l (s : State) (w : Word) : (s.setHl w).cpu.l = loByte w := rfl
@[simp] theorem State.setHl_cpu_sp (s : State) (w : Word) : (s.setHl w).cpu.sp = s.cpu.sp := rfl
@[simp] theorem State.setHl_cpu_pc (s : State) (w : Word) : (s.setHl w).cpu.pc = s.cpu.pc := rfl
@[simp] theorem State.setHl_cpu_ime (s : State) (w : Word) : (s.setHl w).cpu.ime = s.cpu.ime := rfl
@[simp] theorem State.setHl_cpu_imeEnableDelay (s : State) (w : Word) : (s.setHl w).cpu.imeEnableDelay = s.cpu.imeEnableDelay := rfl
@[simp] theorem State.setHl_cpu_imeDisableDelay (s : State) (w : Word) : (s.setHl w).cpu.imeDisableDelay = s.cpu.imeDisableDelay := rfl
@[simp] theorem State.setHl_cpu_halted (s : State) (w : Word) : (s.setHl w).cpu.halted = s.cpu.halted := rfl
@[simp] theorem State.setHl_cpu_stopped (s : State) (w : Word) : (s.setHl w).cpu.stopped = s.cpu.stopped := rfl
@[simp] theorem State.setHl_bc (s : State) (w : Word) : (s.setHl w).bc = s.bc := rfl
@[simp] theorem State.setHl_de (s : State) (w : Word) : (s.setHl w).de = s.de := rfl
@[simp] theorem State.setHl_af (s : State) (w : Word) : (s.setHl w).af = s.af := rfl
@[simp] theorem State.setHl_flags (s : State) (w : Word) : (s.setHl w).flags = s.flags := rfl
@[simp] theorem State.setHl_peek (s : State) (w : Word) (a : Word) : (s.setHl w).peek a = s.peek a := rfl
@[simp] theorem State.setHl_cellOf (s : State) (w : Word) (a : Word) : (s.setHl w).cellOf a = s.cellOf a := rfl

/-! ### setBc -/

@[simp] theorem State.setBc_irq (s : State) (w : Word) : (s.setBc w).irq = s.irq := rfl
@[simp] theorem State.setBc_timer (s : State) (w : Word) : (s.setBc w).timer = s.timer := rfl
@[simp] theorem State.setBc_ppu (s : State) (w : Word) : (s.setBc w).ppu = s.ppu := rfl
@[simp] theorem State.setBc_dma (s : State) (w : Word) : (s.setBc w).dma = s.dma := rfl
@[simp] theorem State.setBc_joypad (s : State) (w : Word) : (s.setBc w).joypad = s.joypad := rfl
@[simp] theorem State.setBc_serial (s : State) (w : Word) : (s.setBc w).serial = s.serial := rfl
@[simp] theorem State.setBc_cart (s : State) (w : Word) : (s.setBc w).cart = s.cart := rfl
@[simp] theorem State.setBc_mem (s : State) (w : Word) : (s.setBc w).mem = s.mem := rfl
@[simp] theorem State.setBc_diag (s : State) (w : Word) : (s.setBc w).diag = s.diag := rfl
@[simp] theorem State.setBc_cycles (s : State) (w : Word) : (s.setBc w).cycles = s.cycles := rfl
@[simp] theorem State.setBc_budget (s : State) (w : Word) : (s.setBc w).budget = s.budget := rfl
@[simp] theorem State.setBc_params (s : State) (w : Word) : (s.setBc w).params = s.params := rfl
@[simp] theorem State.setBc_cpu_a (s : State) (w : Word) : (s.setBc w).cpu.a = s.cpu.a := rfl
@[simp] theorem State.setBc_cpu_f (s : State) (w : Word) : (s.setBc w).cpu.f = s.cpu.f := rfl
@[simp] theorem State.setBc_cpu_b (s : State) (w : Word) : (s.setBc w).cpu.b = hiByte w := rfl
@[simp] theorem State.setBc_cpu_c (s : State) (w : Word) : (s.setBc w).cpu.c = loByte w := rfl
@[simp] theorem State.setBc_cpu_d (s : State) (w : Word) : (s.setBc w).cpu.d = s.cpu.d := rfl
@[simp] theorem State.setBc_cpu_e (s : State) (w : Word) : (s.setBc w).cpu.e = s.cpu.e := rfl
@[simp] theorem State.setBc_cpu_h (s : State) (w : Word) : (s.setBc w).cpu.h = s.cpu.h := rfl
@[simp] theorem State.setBc_cpu_l (s : State) (w : Word) : (s.setBc w).cpu.l = s.cpu.l := rfl
@[simp] theorem State.setBc_cpu_sp (s : State) (w : Word) : (s.setBc w).cpu.sp = s.cpu.sp := rfl
@[simp] theorem State.setBc_cpu_pc (s : State) (w : Word) : (s.setBc w).cpu.pc = s.cpu.pc := rfl
@[simp] theorem State.setBc_cpu_ime (s : State) (w : Word) : (s.setBc w).cpu.ime = s.cpu.ime := rfl
@[simp] theorem State.setBc_cpu_imeEnableDelay (s : State) (w : Word) : (s.setBc w).cpu.imeEnableDelay = s.cpu.imeEnableDelay := rfl
@[simp] theorem State.setBc_cpu_imeDisableDelay (s : State) (w : Word) : (s.setBc w).cpu.imeDisableDelay = s.cpu.imeDisableDelay := rfl
@[simp] theorem State.setBc_cpu_halted (s : State) (w : Word) : (s.setBc w).cpu.halted = s.cpu.halted := rfl
@[simp] theorem State.setBc_cpu_stopped (s : State) (w : Word) : (s.setBc w).cpu.stopped = s.cpu.stopped := rfl
@[simp] theorem State.setBc_hl (s : State) (w : Word) : (s.setBc w).hl = s.hl := rfl
@[simp] theorem State.setBc_de (s : State) (w : Word) : (s.setBc w).de = s.de := rfl
@[simp] theorem State.setBc_af (s : State) (w : Word) : (s.setBc w).af = s.af := rfl
@[simp] theorem State.setBc_flags (s : State) (w : Word) : (s.setBc w).flags = s.flags := rfl
@[simp] theorem State.setBc_peek (s : State) (w : Word) (a : Word) : (s.setBc w).peek a = s.peek a := rfl
@[simp] theorem State.setBc_cellOf (s : State) (w : Word) (a : Word) : (s.setBc w).cellOf a = s.cellOf a := rfl

/-! ### setDe -/

@[simp] theorem State.setDe_irq (s : State) (w : Word) : (s.setDe w).irq = s.irq := rfl
@[simp] theorem State.setDe_timer (s : State) (w : Word) : (s.setDe w).timer = s.timer := rfl
@[simp] theorem State.setDe_ppu (s : State) (w : Word) : (s.setDe w).ppu = s.ppu := rfl
@[simp] theorem State.setDe_dma (s : State) (w : Word) : (s.setDe w).dma = s.dma := rfl
@[simp] theorem State.setDe_joypad (s : State) (w : Word) : (s.setDe w).joypad = s.joypad := rfl
@[simp] theorem State.setDe_serial (s : State) (w : Word) : (s.setDe w).serial = s.serial := rfl
@[simp] theorem State.setDe_cart (s : State) (w : Word) : (s.setDe w).cart = s.cart := rfl
@[simp] theorem State.setDe_mem (s : State) (w : Word) : (s.setDe w).mem = s.mem := rfl
@[simp] theorem State.setDe_diag (s : State) (w : Word) : (s.setDe w).diag = s.diag := rfl
@[simp] theorem State.setDe_cycles (s : State) (w : Word) : (s.setDe w).cycles = s.cycles := rfl
@[simp] theorem State.setDe_budget (s : State) (w : Word) : (s.setDe w).budget = s.budget := rfl
@[simp] theorem State.setDe_params (s : State) (w : Word) : (s.setDe w).params = s.params := rfl
@[simp] theorem State.setDe_cpu_a (s : State) (w : Word) : (s.setDe w).cpu.a = s.cpu.a := rfl
@[simp] theorem State.setDe_cpu_f (s : State) (w : Word) : (s.setDe w).cpu.f = s.cpu.f := rfl
@[simp] theorem State.setDe_cpu_b (s : State) (w : Word) : (s.setDe w).cpu.b = s.cpu.b := rfl
@[simp] theorem State.setDe_cpu_c (s : State) (w : Word) : (s.setDe w).cpu.c = s.cpu.c := rfl
@[simp] theorem State.setDe_cpu_d (s : State) (w : Word) : (s.setDe w).cpu.d = hiByte w := rfl
@[simp] theorem State.setDe_cpu_e (s : State) (w : Word) : (s.setDe w).cpu.e = loByte w := rfl
@[simp] theorem State.setDe_cpu_h (s : State) (w : Word) : (s.setDe w).cpu.h = s.cpu.h := rfl
@[simp] theorem State.setDe_cpu_l (s : State) (w : Word) : (s.setDe w).cpu.l = s.cpu.l := rfl
@[simp] theorem State.setDe_cpu_sp (s : State) (w : Word) : (s.setDe w).cpu.sp = s.cpu.sp := rfl
@[simp] theorem State.setDe_cpu_pc (s : State) (w : Word) : (s.setDe w).cpu.pc = s.cpu.pc := rfl
@[simp] theorem State.setDe_cpu_ime (s : State) (w : Word) : (s.setDe w).cpu.ime = s.cpu.ime := rfl
@[simp] theorem State.setDe_cpu_imeEnableDelay (s : State) (w : Word) : (s.setDe w).cpu.imeEnableDelay = s.cpu.imeEnableDelay := rfl
@[simp] theorem State.setDe_cpu_imeDisableDelay (s : State) (w : Word) : (s.setDe w).cpu.imeDisableDelay = s.cpu.imeDisableDelay := rfl
@[simp] theorem State.setDe_cpu_halted (s : State) (w : Word) : (s.setDe w).cpu.halted = s.cpu.halted := rfl
@[simp] theorem State.setDe_cpu_stopped (s : State) (w : Word) : (s.setDe w).cpu.stopped = s.cpu.stopped := rfl
@[simp] theorem State.setDe_hl (s : State) (w : Word) : (s.setDe w).hl = s.hl := rfl
@[simp] theorem State.setDe_bc (s : State) (w : Word) : (s.setDe w).bc = s.bc := rfl
@[simp] theorem State.setDe_af (s : State) (w : Word) : (s.setDe w).af = s.af := rfl
@[simp] theorem State.setDe_flags (s : State) (w : Word) : (s.setDe w).flags = s.flags := rfl
@[simp] theorem State.setDe_peek (s : State) (w : Word) (a : Word) : (s.setDe w).peek a = s.peek a := rfl
@[simp] theorem State.setDe_cellOf (s : State) (w : Word) (a : Word) : (s.setDe w).cellOf a = s.cellOf a := rfl

/-! ### setAf -/

@[simp] theorem State.setAf_irq (s : State) (w : Word) : (s.setAf w).irq = s.irq := rfl
@[simp] theorem State.setAf_timer (s : State) (w : Word) : (s.setAf w).timer = s.timer := rfl
@[simp] theorem State.setAf_ppu (s : State) (w : Word) : (s.setAf w).ppu = s.ppu := rfl
@[simp] theorem State.setAf_dma (s : State) (w : Word) : (s.setAf w).dma = s.dma := rfl
@[simp] theorem State.setAf_joypad (s : State) (w : Word) : (s.setAf w).joypad = s.joypad := rfl
@[simp] theorem State.setAf_serial (s : State) (w : Word) : (s.setAf w).serial = s.serial := rfl
@[simp] theorem State.setAf_cart (s : State) (w : Word) : (s.setAf w).cart = s.cart := rfl
@[simp] theorem State.setAf_mem (s : State) (w : Word) : (s.setAf w).mem = s.mem := rfl
@[simp] theorem State.setAf_diag (s : State) (w : Word) : (s.setAf w).diag = s.diag := rfl
@[simp] theorem State.setAf_cycles (s : State) (w : Word) : (s.setAf w).cycles = s.cycles := rfl
@[simp] theorem State.setAf_budget (s : State) (w : Word) : (s.setAf w).budget = s.budget := rfl
@[simp] theorem State.setAf_params (s : State) (w : Word) : (s.setAf w).params = s.params := rfl
@[simp] theorem State.setAf_cpu_a (s : State) (w : Word) : (s.setAf w).cpu.a = hiByte w := rfl
@[simp] theorem State.setAf_cpu_f (s : State) (w : Word) : (s.setAf w).cpu.f = loByte w &&& 0xF0 := rfl
@[simp] theorem State.setAf_cpu_b (s : State) (w : Word) : (s.setAf w).cpu.b = s.cpu.b := rfl
@[simp] theorem State.setAf_cpu_c (s : State) (w : Word) : (s.setAf w).cpu.c = s.cpu.c := rfl
@[simp] theorem State.setAf_cpu_d (s : State) (w : Word) : (s.setAf w).cpu.d = s.cpu.d := rfl
@[simp] theorem State.setAf_cpu_e (s : State) (w : Word) : (s.setAf w).cpu.e = s.cpu.e := rfl
@[simp] theorem State.setAf_cpu_h (s : State) (w : Word) : (s.setAf w).cpu.h = s.cpu.h := rfl
@[simp] theorem State.setAf_cpu_l (s : State) (w : Word) : (s.setAf w).cpu.l = s.cpu.l := rfl
@[simp] theorem State.setAf_cpu_sp (s : State) (w : Word) : (s.setAf w).cpu.sp = s.cpu.sp := rfl
@[simp] theorem State.setAf_cpu_pc (s : State) (w : Word) : (s.setAf w).cpu.pc = s.cpu.pc := rfl
@[simp] theorem State.setAf_cpu_ime (s : State) (w : Word) : (s.setAf w).cpu.ime = s.cpu.ime := rfl
@[simp] theorem State.setAf_cpu_imeEnableDelay (s : State) (w : Word) : (s.setAf w).cpu.imeEnableDelay = s.cpu.imeEnableDelay := rfl
@[simp] theorem State.setAf_cpu_imeDisableDelay (s : State) (w : Word) : (s.setAf w).cpu.imeDisableDelay = s.cpu.imeDisableDelay := rfl
@[simp] theorem State.setAf_cpu_halted (s : State) (w : Word) : (s.setAf w).cpu.halted = s.cpu.halted := rfl
@[simp] theorem State.setAf_cpu_stopped (s : State) (w : Word) : (s.setAf w).cpu.stopped = s.cpu.stopped := rfl
@[simp] theorem State.setAf_hl (s : State) (w : Word) : (s.setAf w).hl = s.hl := rfl
@[simp] theorem State.setAf_bc (s : State) (w : Word) : (s.setAf w).bc = s.bc := rfl
@[simp] theorem State.setAf_de (s : State) (w : Word) : (s.setAf w).de = s.de := rfl
@[simp] theorem State.setAf_peek (s : State) (w : Word) (a : Word) : (s.setAf w).peek a = s.peek a := rfl
@[simp] theorem State.setAf_cellOf (s : State) (w : Word) (a : Word) : (s.setAf w).cellOf a = s.cellOf a := rfl

/-! ### writeCell -/

@[simp] theorem State.writeCell_irq (s : State) (k : Nat) (v : Byte) : (s.writeCell k v).irq = s.irq := rfl
@[simp] theorem State.writeCell_timer (s : State) (k : Nat) (v : Byte) : (s.writeCell k v).timer = s.timer := rfl
@[simp] theorem State.writeCell_ppu (s : State) (k : Nat) (v : Byte) : (s.writeCell k v).ppu = s.ppu := rfl
@[simp] theorem State.writeCell_dma (s : State) (k : Nat) (v : Byte) : (s.writeCell k v).dma = s.dma := rfl
@[simp] theorem State.writeCell_joypad (s : State) (k : Nat) (v : Byte) : (s.writeCell k v).joypad = s.joypad := rfl
@[simp] theorem State.writeCell_serial (s : State) (k : Nat) (v : Byte) : (s.writeCell k v).serial = s.serial := rfl
@[simp] theorem State.writeCell_cart (s : State) (k : Nat) (v : Byte) : (s.writeCell k v).cart = s.cart := rfl
@[simp] theorem State.writeCell_mem (s : State) (k : Nat) (v : Byte) : (s.writeCell k v).mem = Memory.write s.mem k v := rfl
@[simp] theorem State.writeCell_diag (s : State) (k : Nat) (v : Byte) : (s.writeCell k v).diag = s.diag := rfl
@[simp] theorem State.writeCell_cycles (s : State) (k : Nat) (v : Byte) : (s.writeCell k v).cycles = s.cycles := rfl
@[simp] theorem State.writeCell_budget (s : State) (k : Nat) (v : Byte) : (s.writeCell k v).budget = s.budget := rfl
@[simp] theorem State.writeCell_params (s : State) (k : Nat) (v : Byte) : (s.writeCell k v).params = s.params := rfl
@[simp] theorem State.writeCell_cpu_a (s : State) (k : Nat) (v : Byte) : (s.writeCell k v).cpu.a = s.cpu.a := rfl
@[simp] theorem State.writeCell_cpu_f (s : State) (k : Nat) (v : Byte) : (s.writeCell k v).cpu.f = s.cpu.f := rfl
@[simp] theorem State.writeCell_cpu_b (s : State) (k : Nat) (v : Byte) : (s.writeCell k v).cpu.b = s.cpu.b := rfl
@[simp] theorem State.writeCell_cpu_c (s : State) (k : Nat) (v : Byte) : (s.writeCell k v).cpu.c = s.cpu.c := rfl
@[simp] theorem State.writeCell_cpu_d (s : State) (k : Nat) (v : Byte) : (s.writeCell k v).cpu.d = s.cpu.d := rfl
@[simp] theorem State.writeCell_cpu_e (s : State) (k : Nat) (v : Byte) : (s.writeCell k v).cpu.e = s.cpu.e := rfl
@[simp] theorem State.writeCell_cpu_h (s : State) (k : Nat) (v : Byte) : (s.writeCell k v).cpu.h = s.cpu.h := rfl
@[simp] theorem State.writeCell_cpu_l (s : State) (k : Nat) (v : Byte) : (s.writeCell k v).cpu.l = s.cpu.l := rfl
@[simp] theorem State.writeCell_cpu_sp (s : State) (k : Nat) (v : Byte) : (s.writeCell k v).cpu.sp = s.cpu.sp := rfl
@[simp] theorem State.writeCell_cpu_pc (s : State) (k : Nat) (v : Byte) : (s.writeCell k v).cpu.pc = s.cpu.pc := rfl
@[simp] theorem State.writeCell_cpu_ime (s : State) (k : Nat) (v : Byte) : (s.writeCell k v).cpu.ime = s.cpu.ime := rfl
@[simp] theorem State.writeCell_cpu_imeEnableDelay (s : State) (k : Nat) (v : Byte) : (s.writeCell k v).cpu.imeEnableDelay = s.cpu.imeEnableDelay := rfl
@[simp] theorem State.writeCell_cpu_imeDisableDelay (s : State) (k : Nat) (v : Byte) : (s.writeCell k v).cpu.imeDisableDelay = s.cpu.imeDisableDelay := rfl
@[simp] theorem State.writeCell_cpu_halted (s : State) (k : Nat) (v : Byte) : (s.writeCell k v).cpu.halted = s.cpu.halted := rfl
@[simp] theorem State.writeCell_cpu_stopped (s : State) (k : Nat) (v : Byte) : (s.writeCell k v).cpu.stopped = s.cpu.stopped := rfl
@[simp] theorem State.writeCell_getReg (s : State) (k : Nat) (v : Byte) (q : Reg8) : (s.writeCell k v).getReg q = s.getReg q := by cases q <;> rfl
@[simp] theorem State.writeCell_hl (s : State) (k : Nat) (v : Byte) : (s.writeCell k v).hl = s.hl := rfl
@[simp] theorem State.writeCell_bc (s : State) (k : Nat) (v : Byte) : (s.writeCell k v).bc = s.bc := rfl
@[simp] theorem State.writeCell_de (s : State) (k : Nat) (v : Byte) : (s.writeCell k v).de = s.de := rfl
@[simp] theorem State.writeCell_af (s : State) (k : Nat) (v : Byte) : (s.writeCell k v).af = s.af := rfl
@[simp] theorem State.writeCell_flags (s : State) (k : Nat) (v : Byte) : (s.writeCell k v).flags = s.flags := rfl
@[simp] theorem State.writeCell_cellOf (s : State) (k : Nat) (v : Byte) (a : Word) : (s.writeCell k v).cellOf a = s.cellOf a := rfl

/-! ### logDiag -/

@[simp] theorem State.logDiag_irq (s : State) (x : Diag) : (s.logDiag x).irq = s.irq := rfl
@[simp] theorem State.logDiag_timer (s : State) (x : Diag) : (s.logDiag x).timer = s.timer := rfl
@[simp] theorem State.logDiag_ppu (s : State) (x : Diag) : (s.logDiag x).ppu = s.ppu := rfl
@[simp] theorem State.logDiag_dma (s : State) (x : Diag) : (s.logDiag x).dma = s.dma := rfl
@[simp] theorem State.logDiag_joypad (s : State) (x : Diag) : (s.logDiag x).joypad = s.joypad := rfl
@[simp] theorem State.logDiag_serial (s : State) (x : Diag) : (s.logDiag x).serial = s.serial := rfl
@[simp] theorem State.logDiag_cart (s : State) (x : Diag) : (s.logDiag x).cart = s.cart := rfl
@[simp] theorem State.logDiag_mem (s : State) (x : Diag) : (s.logDiag x).mem = s.mem := rfl
@[simp] theorem State.logDiag_diag (s : State) (x : Diag) : (s.logDiag x).diag = s.diag ++ [x] := rfl
@[simp] theorem State.logDiag_cycles (s : State) (x : Diag) : (s.logDiag x).cycles = s.cycles := rfl
@[simp] theorem State.logDiag_budget (s : State) (x : Diag) : (s.logDiag x).budget = s.budget := rfl
@[simp] theorem State.logDiag_params (s : State) (x : Diag) : (s.logDiag x).params = s.params := rfl
@[simp] theorem State.logDiag_cpu_a (s : State) (x : Diag) : (s.logDiag x).cpu.a = s.cpu.a := rfl
@[simp] theorem State.logDiag_cpu_f (s : State) (x : Diag) : (s.logDiag x).cpu.f = s.cpu.f := rfl
@[simp] theorem State.logDiag_cpu_b (s : State) (x : Diag) : (s.logDiag x).cpu.b = s.cpu.b := rfl
@[simp] theorem State.logDiag_cpu_c (s : State) (x : Diag) : (s.logDiag x).cpu.c = s.cpu.c := rfl
@[simp] theorem State.logDiag_cpu_d (s : State) (x : Diag) : (s.logDiag x).cpu.d = s.cpu.d := rfl
@[simp] theorem State.logDiag_cpu_e (s : State) (x : Diag) : (s.logDiag x).cpu.e = s.cpu.e := rfl
@[simp] theorem State.logDiag_cpu_h (s : State) (x : Diag) : (s.logDiag x).cpu.h = s.cpu.h := rfl
@[simp] theorem State.logDiag_cpu_l (s : State) (x : Diag) : (s.logDiag x).cpu.l = s.cpu.l := rfl
@[simp] theorem State.logDiag_cpu_sp (s : State) (x : Diag) : (s.logDiag x).cpu.sp = s.cpu.sp := rfl
@[simp] theorem State.logDiag_cpu_pc (s : State) (x : Diag) : (s.logDiag x).cpu.pc = s.cpu.pc := rfl
@[simp] theorem State.logDiag_cpu_ime (s : State) (x : Diag) : (s.logDiag x).cpu.ime = s.cpu.ime := rfl
@[simp] theorem State.logDiag_cpu_imeEnableDelay (s : State) (x : Diag) : (s.logDiag x).cpu.imeEnableDelay = s.cpu.imeEnableDelay := rfl
@[simp] theorem State.logDiag_cpu_imeDisableDelay (s : State) (x : Diag) : (s.logDiag x).cpu.imeDisableDelay = s.cpu.imeDisableDelay := rfl
@[simp] theorem State.logDiag_cpu_halted (s : State) (x : Diag) : (s.logDiag x).cpu.halted = s.cpu.halted := rfl
@[simp] theorem State.logDiag_cpu_stopped (s : State) (x : Diag) : (s.logDiag x).cpu.stopped = s.cpu.stopped := rfl
@[simp] theorem State.logDiag_getReg (s : State) (x : Diag) (q : Reg8) : (s.logDiag x).getReg q = s.getReg q := by cases q <;> rfl
@[simp] theorem State.logDiag_hl (s : State) (x : Diag) : (s.logDiag x).hl = s.hl := rfl
@[simp] theorem State.logDiag_bc (s : State) (x : Diag) : (s.logDiag x).bc = s.bc := rfl
@[simp] theorem State.logDiag_de (s : State) (x : Diag) : (s.logDiag x).de = s.de := rfl
@[simp] theorem State.logDiag_af (s : State) (x : Diag) : (s.logDiag x).af = s.af := rfl
@[simp] theorem State.logDiag_flags (s : State) (x : Diag) : (s.logDiag x).flags = s.flags := rfl
@[simp] theorem State.logDiag_peek (s : State) (x : Diag) (a : Word) : (s.logDiag x).peek a = s.peek a := rfl
@[simp] theorem State.logDiag_cellOf (s : State) (x : Diag) (a : Word) : (s.logDiag x).cellOf a = s.cellOf a := rfl

/-! ### raiseIrq -/

@[simp] theorem State.raiseIrq_irq (s : State) (i : IrqSource) : (s.raiseIrq i).irq = { s.irq with flag := s.irq.flag ||| i.mask } := rfl
@[simp] theorem State.raiseIrq_timer (s : State) (i : IrqSource) : (s.raiseIrq i).timer = s.timer := rfl
@[simp] theorem State.raiseIrq_ppu (s : State) (i : IrqSource) : (s.raiseIrq i).ppu = s.ppu := rfl
@[simp] theorem State.raiseIrq_dma (s : State) (i : IrqSource) : (s.raiseIrq i).dma = s.dma := rfl
@[simp] theorem State.raiseIrq_joypad (s : State) (i : IrqSource) : (s.raiseIrq i).joypad = s.joypad := rfl
@[simp] theorem State.raiseIrq_serial (s : State) (i : IrqSource) : (s.raiseIrq i).serial = s.serial := rfl
@[simp] theorem State.raiseIrq_cart (s : State) (i : IrqSource) : (s.raiseIrq i).cart = s.cart := rfl
@[simp] theorem State.raiseIrq_mem (s : State) (i : IrqSource) : (s.raiseIrq i).mem = s.mem := rfl
@[simp] theorem State.raiseIrq_diag (s : State) (i : IrqSource) : (s.raiseIrq i).diag = s.diag := rfl
@[simp] theorem State.raiseIrq_cycles (s : State) (i : IrqSource) : (s.raiseIrq i).cycles = s.cycles := rfl
@[simp] theorem State.raiseIrq_budget (s : State) (i : IrqSource) : (s.raiseIrq i).budget = s.budget := rfl
@[simp] theorem State.raiseIrq_params (s : State) (i : IrqSource) : (s.raiseIrq i).params = s.params := rfl
@[simp] theorem State.raiseIrq_cpu_a (s : State) (i : IrqSource) : (s.raiseIrq i).cpu.a = s.cpu.a := rfl
@[simp] theorem State.raiseIrq_cpu_f (s : State) (i : IrqSource) : (s.raiseIrq i).cpu.f = s.cpu.f := rfl
@[simp] theorem State.raiseIrq_cpu_b (s : State) (i : IrqSource) : (s.raiseIrq i).cpu.b = s.cpu.b := rfl
@[simp] theorem State.raiseIrq_cpu_c (s : State) (i : IrqSource) : (s.raiseIrq i).cpu.c = s.cpu.c := rfl
@[simp] theorem State.raiseIrq_cpu_d (s : State) (i : IrqSource) : (s.raiseIrq i).cpu.d = s.cpu.d := rfl
@[simp] theorem State.raiseIrq_cpu_e (s : State) (i : IrqSource) : (s.raiseIrq i).cpu.e = s.cpu.e := rfl
@[simp] theorem State.raiseIrq_cpu_h (s : State) (i : IrqSource) : (s.raiseIrq i).cpu.h = s.cpu.h := rfl
@[simp] theorem State.raiseIrq_cpu_l (s : State) (i : IrqSource) : (s.raiseIrq i).cpu.l = s.cpu.l := rfl
@[simp] theorem State.raiseIrq_cpu_sp (s : State) (i : IrqSource) : (s.raiseIrq i).cpu.sp = s.cpu.sp := rfl
@[simp] theorem State.raiseIrq_cpu_pc (s : State) (i : IrqSource) : (s.raiseIrq i).cpu.pc = s.cpu.pc := rfl
@[simp] theorem State.raiseIrq_cpu_ime (s : State) (i : IrqSource) : (s.raiseIrq i).cpu.ime = s.cpu.ime := rfl
@[simp] theorem State.raiseIrq_cpu_imeEnableDelay (s : State) (i : IrqSource) : (s.raiseIrq i).cpu.imeEnableDelay = s.cpu.imeEnableDelay := rfl
@[simp] theorem State.raiseIrq_cpu_imeDisableDelay (s : State) (i : IrqSource) : (s.raiseIrq i).cpu.imeDisableDelay = s.cpu.imeDisableDelay := rfl
@[simp] theorem State.raiseIrq_cpu_halted (s : State) (i : IrqSource) : (s.raiseIrq i).cpu.halted = s.cpu.halted := rfl
@[simp] theorem State.raiseIrq_cpu_stopped (s : State) (i : IrqSource) : (s.raiseIrq i).cpu.stopped = s.cpu.stopped := rfl
@[simp] theorem State.raiseIrq_getReg (s : State) (i : IrqSource) (q : Reg8) : (s.raiseIrq i).getReg q = s.getReg q := by cases q <;> rfl
@[simp] theorem State.raiseIrq_hl (s : State) (i : IrqSource) : (s.raiseIrq i).hl = s.hl := rfl
@[simp] theorem State.raiseIrq_bc (s : State) (i : IrqSource) : (s.raiseIrq i).bc = s.bc := rfl
@[simp] theorem State.raiseIrq_de (s : State) (i : IrqSource) : (s.raiseIrq i).de = s.de := rfl
@[simp] theorem State.raiseIrq_af (s : State) (i : IrqSource) : (s.raiseIrq i).af = s.af := rfl
@[simp] theorem State.raiseIrq_flags (s : State) (i : IrqSource) : (s.raiseIrq i).flags = s.flags := rfl
@[simp] theorem State.raiseIrq_cellOf (s : State) (i : IrqSource) (a : Word) : (s.raiseIrq i).cellOf a = s.cellOf a := rfl

/-! ### clearIrq -/

@[simp] theorem State.clearIrq_irq (s : State) (i : IrqSource) : (s.clearIrq i).irq = { s.irq with flag := s.irq.flag &&& ~~~i.mask } := rfl
@[simp] theorem State.clearIrq_timer (s : State) (i : IrqSource) : (s.clearIrq i).timer = s.timer := rfl
@[simp] theorem State.clearIrq_ppu (s : State) (i : IrqSource) : (s.clearIrq i).ppu = s.ppu := rfl
@[simp] theorem State.clearIrq_dma (s : State) (i : IrqSource) : (s.clearIrq i).dma = s.dma := rfl
@[simp] theorem State.clearIrq_joypad (s : State) (i : IrqSource) : (s.clearIrq i).joypad = s.joypad := rfl
@[simp] theorem State.clearIrq_serial (s : State) (i : IrqSource) : (s.clearIrq i).serial = s.serial := rfl
@[simp] theorem State.clearIrq_cart (s : State) (i : IrqSource) : (s.clearIrq i).cart = s.cart := rfl
@[simp] theorem State.clearIrq_mem (s : State) (i : IrqSource) : (s.clearIrq i).mem = s.mem := rfl
@[simp] theorem State.clearIrq_diag (s : State) (i : IrqSource) : (s.clearIrq i).diag = s.diag := rfl
@[simp] theorem State.clearIrq_cycles (s : State) (i : IrqSource) : (s.clearIrq i).cycles = s.cycles := rfl
@[simp] theorem State.clearIrq_budget (s : State) (i : IrqSource) : (s.clearIrq i).budget = s.budget := rfl
@[simp] theorem State.clearIrq_params (s : State) (i : IrqSource) : (s.clearIrq i).params = s.params := rfl
@[simp] theorem State.clearIrq_cpu_a (s : State) (i : IrqSource) : (s.clearIrq i).cpu.a = s.cpu.a := rfl
@[simp] theorem State.clearIrq_cpu_f (s : State) (i : IrqSource) : (s.clearIrq i).cpu.f = s.cpu.f := rfl
@[simp] theorem State.clearIrq_cpu_b (s : State) (i : IrqSource) : (s.clearIrq i).cpu.b = s.cpu.b := rfl
@[simp] theorem State.clearIrq_cpu_c (s : State) (i : IrqSource) : (s.clearIrq i).cpu.c = s.cpu.c := rfl
@[simp] theorem State.clearIrq_cpu_d (s : State) (i : IrqSource) : (s.clearIrq i).cpu.d = s.cpu.d := rfl
@[simp] theorem State.clearIrq_cpu_e (s : State) (i : IrqSource) : (s.clearIrq i).cpu.e = s.cpu.e := rfl
@[simp] theorem State.clearIrq_cpu_h (s : State) (i : IrqSource) : (s.clearIrq i).cpu.h = s.cpu.h := rfl
@[simp] theorem State.clearIrq_cpu_l (s : State) (i : IrqSource) : (s.clearIrq i).cpu.l = s.cpu.l := rfl
@[simp] theorem State.clearIrq_cpu_sp (s : State) (i : IrqSource) : (s.clearIrq i).cpu.sp = s.cpu.sp := rfl
@[simp] theorem State.clearIrq_cpu_pc (s : State) (i : IrqSource) : (s.clearIrq i).cpu.pc = s.cpu.pc := rfl
@[simp] theorem State.clearIrq_cpu_ime (s : State) (i : IrqSource) : (s.clearIrq i).cpu.ime = s.cpu.ime := rfl
@[simp] theorem State.clearIrq_cpu_imeEnableDelay (s : State) (i : IrqSource) : (s.clearIrq i).cpu.imeEnableDelay = s.cpu.imeEnableDelay := rfl
@[simp] theorem State.clearIrq_cpu_imeDisableDelay (s : State) (i : IrqSource) : (s.clearIrq i).cpu.imeDisableDelay = s.cpu.imeDisableDelay := rfl
@[simp] theorem State.clearIrq_cpu_halted (s : State) (i : IrqSource) : (s.clearIrq i).cpu.halted = s.cpu.halted := rfl
@[simp] theorem State.clearIrq_cpu_stopped (s : State) (i : IrqSource) : (s.clearIrq i).cpu.stopped = s.cpu.stopped := rfl
@[simp] theorem State.clearIrq_getReg (s : State) (i : IrqSource) (q : Reg8) : (s.clearIrq i).getReg q = s.getReg q := by cases q <;> rfl
@[simp] theorem State.clearIrq_hl (s : State) (i : IrqSource) : (s.clearIrq i).hl = s.hl := rfl
@[simp] theorem State.clearIrq_bc (s : State) (i : IrqSource) : (s.clearIrq i).bc = s.bc := rfl
@[simp] theorem State.clearIrq_de (s : State) (i : IrqSource) : (s.clearIrq i).de = s.de := rfl
@[simp] theorem State.clearIrq_af (s : State) (i : IrqSource) : (s.clearIrq i).af = s.af := rfl
@[simp] theorem State.clearIrq_flags (s : State) (i : IrqSource) : (s.clearIrq i).flags = s.flags := rfl
@[simp] theorem State.clearIrq_cellOf (s : State) (i : IrqSource) (a : Word) : (s.clearIrq i).cellOf a = s.cellOf a := rfl

/-! ### setReg -/

@[simp] theorem State.setReg_irq (s : State) (r : Reg8) (v : Byte) : (s.setReg r v).irq = s.irq := by cases r <;> rfl
@[simp] theorem State.setReg_timer (s : State) (r : Reg8) (v : Byte) : (s.setReg r v).timer = s.timer := by cases r <;> rfl
@[simp] theorem State.setReg_ppu (s : State) (r : Reg8) (v : Byte) : (s.setReg r v).ppu = s.ppu := by cases r <;> rfl
@[simp] theorem State.setReg_dma (s : State) (r : Reg8) (v : Byte) : (s.setReg r v).dma = s.dma := by cases r <;> rfl
@[simp] theorem State.setReg_joypad (s : State) (r : Reg8) (v : Byte) : (s.setReg r v).joypad = s.joypad := by cases r <;> rfl
@[simp] theorem State.setReg_serial (s : State) (r : Reg8) (v : Byte) : (s.setReg r v).serial = s.serial := by cases r <;> rfl
@[simp] theorem State.setReg_cart (s : State) (r : Reg8) (v : Byte) : (s.setReg r v).cart = s.cart := by cases r <;> rfl
@[simp] theorem State.setReg_mem (s : State) (r : Reg8) (v : Byte) : (s.setReg r v).mem = s.mem := by cases r <;> rfl
@[simp] theorem State.setReg_diag (s : State) (r : Reg8) (v : Byte) : (s.setReg r v).diag = s.diag := by cases r <;> rfl
@[simp] theorem State.setReg_cycles (s : State) (r : Reg8) (v : Byte) : (s.setReg r v).cycles = s.cycles := by cases r <;> rfl
@[simp] theorem State.setReg_budget (s : State) (r : Reg8) (v : Byte) : (s.setReg r v).budget = s.budget := by cases r <;> rfl
@[simp] theorem State.setReg_params (s : State) (r : Reg8) (v : Byte) : (s.setReg r v).params = s.params := by cases r <;> rfl
@[simp] theorem State.setReg_cpu_f (s : State) (r : Reg8) (v : Byte) : (s.setReg r v).cpu.f = s.cpu.f := by cases r <;> rfl
@[simp] theorem State.setReg_cpu_sp (s : State) (r : Reg8) (v : Byte) : (s.setReg r v).cpu.sp = s.cpu.sp := by cases r <;> rfl
@[simp] theorem State.setReg_cpu_pc (s : State) (r : Reg8) (v : Byte) : (s.setReg r v).cpu.pc = s.cpu.pc := by cases r <;> rfl
@[simp] theorem State.setReg_cpu_ime (s : State) (r : Reg8) (v : Byte) : (s.setReg r v).cpu.ime = s.cpu.ime := by cases r <;> rfl
@[simp] theorem State.setReg_cpu_imeEnableDelay (s : State) (r : Reg8) (v : Byte) : (s.setReg r v).cpu.imeEnableDelay = s.cpu.imeEnableDelay := by cases r <;> rfl
@[simp] theorem State.setReg_cpu_imeDisableDelay (s : State) (r : Reg8) (v : Byte) : (s.setReg r v).cpu.imeDisableDelay = s.cpu.imeDisableDelay := by cases r <;> rfl
@[simp] theorem State.setReg_cpu_halted (s : State) (r : Reg8) (v : Byte) : (s.setReg r v).cpu.halted = s.cpu.halted := by cases r <;> rfl
@[simp] theorem State.setReg_cpu_stopped (s : State) (r : Reg8) (v : Byte) : (s.setReg r v).cpu.stopped = s.cpu.stopped := by cases r <;> rfl
@[simp] theorem State.setReg_peek (s : State) (r : Reg8) (v : Byte) (a : Word) : (s.setReg r v).peek a = s.peek a := by cases r <;> rfl
@[simp] theorem State.setReg_cellOf (s : State) (r : Reg8) (v : Byte) (a : Word) : (s.setReg r v).cellOf a = s.cellOf a := by cases r <;> rfl

@[simp] theorem State.setReg_flags (s : State) (r : Reg8) (v : Byte) : (s.setReg r v).flags = s.flags := by
  cases r <;> rfl

theorem State.setReg_getReg (s : State) (r q : Reg8) (v : Byte) :
    (s.setReg r v).getReg q = if q = r then v else s.getReg q := by
  cases r <;> cases q <;> rfl

/-! ### setPair -/

@[simp] theorem State.setPair_irq (s : State) (p : Pair) (w : Word) : (s.setPair p w).irq = s.irq := by cases p <;> rfl
@[simp] theorem State.setPair_timer (s : State) (p : Pair) (w : Word) : (s.setPair p w).timer = s.timer := by cases p <;> rfl
@[simp] theorem State.setPair_ppu (s : State) (p : Pair) (w : Word) : (s.setPair p w).ppu = s.ppu := by cases p <;> rfl
@[simp] theorem State.setPair_dma (s : State) (p : Pair) (w : Word) : (s.setPair p w).dma = s.dma := by cases p <;> rfl
@[simp] theorem State.setPair_joypad (s : State) (p : Pair) (w : Word) : (s.setPair p w).joypad = s.joypad := by cases p <;> rfl
@[simp] theorem State.setPair_serial (s : State) (p : Pair) (w : Word) : (s.setPair p w).serial = s.serial := by cases p <;> rfl
@[simp] theorem State.setPair_cart (s : State) (p : Pair) (w : Word) : (s.setPair p w).cart = s.cart := by cases p <;> rfl
@[simp] theorem State.setPair_mem (s : State) (p : Pair) (w : Word) : (s.setPair p w).mem = s.mem := by cases p <;> rfl
@[simp] theorem State.setPair_diag (s : State) (p : Pair) (w : Word) : (s.setPair p w).diag = s.diag := by cases p <;> rfl
@[simp] theorem State.setPair_cycles (s : State) (p : Pair) (w : Word) : (s.setPair p w).cycles = s.cycles := by cases p <;> rfl
@[simp] theorem State.setPair_budget (s : State) (p : Pair) (w : Word) : (s.setPair p w).budget = s.budget := by cases p <;> rfl
@[simp] theorem State.setPair_params (s : State) (p : Pair) (w : Word) : (s.setPair p w).params = s.params := by cases p <;> rfl
@[simp] theorem State.setPair_cpu_a (s : State) (p : Pair) (w : Word) : (s.setPair p w).cpu.a = s.cpu.a := by cases p <;> rfl
@[simp] theorem State.setPair_cpu_f (s : State) (p : Pair) (w : Word) : (s.setPair p w).cpu.f = s.cpu.f := by cases p <;> rfl
@[simp] theorem State.setPair_cpu_pc (s : State) (p : Pair) (w : Word) : (s.setPair p w).cpu.pc = s.cpu.pc := by cases p <;> rfl
@[simp] theorem State.setPair_cpu_ime (s : State) (p : Pair) (w : Word) : (s.setPair p w).cpu.ime = s.cpu.ime := by cases p <;> rfl
@[simp] theorem State.setPair_cpu_imeEnableDelay (s : State) (p : Pair) (w : Word) : (s.setPair p w).cpu.imeEnableDelay = s.cpu.imeEnableDelay := by cases p <;> rfl
@[simp] theorem State.setPair_cpu_imeDisableDelay (s : State) (p : Pair) (w : Word) : (s.setPair p w).cpu.imeDisableDelay = s.cpu.imeDisableDelay := by cases p <;> rfl
@[simp] theorem State.setPair_cpu_halted (s : State) (p : Pair) (w : Word) : (s.setPair p w).cpu.halted = s.cpu.halted := by cases p <;> rfl
@[simp] theorem State.setPair_cpu_stopped (s : State) (p : Pair) (w : Word) : (s.setPair p w).cpu.stopped = s.cpu.stopped := by cases p <;> rfl
@[simp] theorem State.setPair_peek (s : State) (p : Pair) (w : Word) (a : Word) : (s.setPair p w).peek a = s.peek a := by cases p <;> rfl
@[simp] theorem State.setPair_cellOf (s : State) (p : Pair) (w : Word) (a : Word) : (s.setPair p w).cellOf a = s.cellOf a := by cases p <;> rfl

@[simp] theorem State.setPair_getPair (s : State) (p : Pair) (w : Word) : (s.setPair p w).getPair p = w := by
  cases p <;> simp [State.setPair, State.getPair, State.hl, State.bc, State.de]

@[simp] theorem State.setPair_flags (s : State) (p : Pair) (w : Word) : (s.setPair p w).flags = s.flags := by
  cases p <;> rfl

/-! ### setStackPair -/

@[simp] theorem State.setStackPair_irq (s : State) (p : StackPair) (w : Word) : (s.setStackPair p w).irq = s.irq := by cases p <;> rfl
@[simp] theorem State.setStackPair_timer (s : State) (p : StackPair) (w : Word) : (s.setStackPair p w).timer = s.timer := by cases p <;> rfl
@[simp] theorem State.setStackPair_ppu (s : State) (p : StackPair) (w : Word) : (s.setStackPair p w).ppu = s.ppu := by cases p <;> rfl
@[simp] theorem State.setStackPair_dma (s : State) (p : StackPair) (w : Word) : (s.setStackPair p w).dma = s.dma := by cases p <;> rfl
@[simp] theorem State.setStackPair_joypad (s : State) (p : StackPair) (w : Word) : (s.setStackPair p w).joypad = s.joypad := by cases p <;> rfl
@[simp] theorem State.setStackPair_serial (s : State) (p : StackPair) (w : Word) : (s.setStackPair p w).serial = s.serial := by cases p <;> rfl
@[simp] theorem State.setStackPair_cart (s : State) (p : StackPair) (w : Word) : (s.setStackPair p w).cart = s.cart := by cases p <;> rfl
@[simp] theorem State.setStackPair_mem (s : State) (p : StackPair) (w : Word) : (s.setStackPair p w).mem = s.mem := by cases p <;> rfl
@[simp] theorem State.setStackPair_diag (s : State) (p : StackPair) (w : Word) : (s.setStackPair p w).diag = s.diag := by cases p <;> rfl
@[simp] theorem State.setStackPair_cycles (s : State) (p : StackPair) (w : Word) : (s.setStackPair p w).cycles = s.cycles := by cases p <;> rfl
@[simp] theorem State.setStackPair_budget (s : State) (p : StackPair) (w : Word) : (s.setStackPair p w).budget = s.budget := by cases p <;> rfl
@[simp] theorem State.setStackPair_params (s : State) (p : StackPair) (w : Word) : (s.setStackPair p w).params = s.params := by cases p <;> rfl
@[simp] theorem State.setStackPair_cpu_sp (s : State) (p : StackPair) (w : Word) : (s.setStackPair p w).cpu.sp = s.cpu.sp := by cases p <;> rfl
@[simp] theorem State.setStackPair_cpu_pc (s : State) (p : StackPair) (w : Word) : (s.setStackPair p w).cpu.pc = s.cpu.pc := by cases p <;> rfl
@[simp] theorem State.setStackPair_cpu_ime (s : State) (p : StackPair) (w : Word) : (s.setStackPair p w).cpu.ime = s.cpu.ime := by cases p <;> rfl
@[simp] theorem State.setStackPair_cpu_imeEnableDelay (s : State) (p : StackPair) (w : Word) : (s.setStackPair p w).cpu.imeEnableDelay = s.cpu.imeEnableDelay := by cases p <;> rfl
@[simp] theorem State.setStackPair_cpu_imeDisableDelay (s : State) (p : StackPair) (w : Word) : (s.setStackPair p w).cpu.imeDisableDelay = s.cpu.imeDisableDelay := by cases p <;> rfl
@[simp] theorem State.setStackPair_cpu_halted (s : State) (p : StackPair) (w : Word) : (s.setStackPair p w).cpu.halted = s.cpu.halted := by cases p <;> rfl
@[simp] theorem State.setStackPair_cpu_stopped (s : State) (p : StackPair) (w : Word) : (s.setStackPair p w).cpu.stopped = s.cpu.stopped := by cases p <;> rfl
@[simp] theorem State.setStackPair_peek (s : State) (p : StackPair) (w : Word) (a : Word) : (s.setStackPair p w).peek a = s.peek a := by cases p <;> rfl
@[simp] theorem State.setStackPair_cellOf (s : State) (p : StackPair) (w : Word) (a : Word) : (s.setStackPair p w).cellOf a = s.cellOf a := by cases p <;> rfl

/-! ### setFlags -/

@[simp] theorem State.setFlags_irq (s : State) (x : Flags) : (s.setFlags x).irq = s.irq := rfl
@[simp] theorem State.setFlags_timer (s : State) (x : Flags) : (s.setFlags x).timer = s.timer := rfl
@[simp] theorem State.setFlags_ppu (s : State) (x : Flags) : (s.setFlags x).ppu = s.ppu := rfl
@[simp] theorem State.setFlags_dma (s : State) (x : Flags) : (s.setFlags x).dma = s.dma := rfl
@[simp] theorem State.setFlags_joypad (s : State) (x : Flags) : (s.setFlags x).joypad = s.joypad := rfl
@[simp] theorem State.setFlags_serial (s : State) (x : Flags) : (s.setFlags x).serial = s.serial := rfl
@[simp] theorem State.setFlags_cart (s : State) (x : Flags) : (s.setFlags x).cart = s.cart := rfl
@[simp] theorem State.setFlags_mem (s : State) (x : Flags) : (s.setFlags x).mem = s.mem := rfl
@[simp] theorem State.setFlags_diag (s : State) (x : Flags) : (s.setFlags x).diag = s.diag := rfl
@[simp] theorem State.setFlags_cycles (s : State) (x : Flags) : (s.setFlags x).cycles = s.cycles := rfl
@[simp] theorem State.setFlags_budget (s : State) (x : Flags) : (s.setFlags x).budget = s.budget := rfl
@[simp] theorem State.setFlags_params (s : State) (x : Flags) : (s.setFlags x).params = s.params := rfl
@[simp] theorem State.setFlags_cpu_a (s : State) (x : Flags) : (s.setFlags x).cpu.a = s.cpu.a := rfl
@[simp] theorem State.setFlags_cpu_b (s : State) (x : Flags) : (s.setFlags x).cpu.b = s.cpu.b := rfl
@[simp] theorem State.setFlags_cpu_c (s : State) (x : Flags) : (s.setFlags x).cpu.c = s.cpu.c := rfl
@[simp] theorem State.setFlags_cpu_d (s : State) (x : Flags) : (s.setFlags x).cpu.d = s.cpu.d := rfl
@[simp] theorem State.setFlags_cpu_e (s : State) (x : Flags) : (s.setFlags x).cpu.e = s.cpu.e := rfl
@[simp] theorem State.setFlags_cpu_h (s : State) (x : Flags) : (s.setFlags x).cpu.h = s.cpu.h := rfl
@[simp] theorem State.setFlags_cpu_l (s : State) (x : Flags) : (s.setFlags x).cpu.l = s.cpu.l := rfl
@[simp] theorem State.setFlags_cpu_sp (s : State) (x : Flags) : (s.setFlags x).cpu.sp = s.cpu.sp := rfl
@[simp] theorem State.setFlags_cpu_pc (s : State) (x : Flags) : (s.setFlags x).cpu.pc = s.cpu.pc := rfl
@[simp] theorem State.setFlags_cpu_ime (s : State) (x : Flags) : (s.setFlags x).cpu.ime = s.cpu.ime := rfl
@[simp] theorem State.setFlags_cpu_imeEnableDelay (s : State) (x : Flags) : (s.setFlags x).cpu.imeEnableDelay = s.cpu.imeEnableDelay := rfl
@[simp] theorem State.setFlags_cpu_imeDisableDelay (s : State) (x : Flags) : (s.setFlags x).cpu.imeDisableDelay = s.cpu.imeDisableDelay := rfl
@[simp] theorem State.setFlags_cpu_halted (s : State) (x : Flags) : (s.setFlags x).cpu.halted = s.cpu.halted := rfl
@[simp] theorem State.setFlags_cpu_stopped (s : State) (x : Flags) : (s.setFlags x).cpu.stopped = s.cpu.stopped := rfl
@[simp] theorem State.setFlags_cpu_f (s : State) (x : Flags) : (s.setFlags x).cpu.f = x.toByte := toByte_and_f0 x

@[simp] theorem State.setFlags_flags (s : State) (x : Flags) : (s.setFlags x).flags = x := by
  simp [State.flags]

@[simp] theorem State.setFlags_getReg (s : State) (x : Flags) (q : Reg8) : (s.setFlags x).getReg q = s.getReg q := by
  cases q <;> rfl

@[simp] theorem State.setFlags_peek (s : State) (x : Flags) (a : Word) : (s.setFlags x).peek a = s.peek a := rfl

@[simp] theorem State.setFlags_cellOf (s : State) (x : Flags) (a : Word) : (s.setFlags x).cellOf a = s.cellOf a := rfl

@[simp] theorem State.setFlags_hl (s : State) (x : Flags) : (s.setFlags x).hl = s.hl := rfl

/-! ### noteAccess -/

@[simp] theorem State.noteAccess_irq (s : State) (b : Word) : (s.noteAccess b).irq = s.irq := by unfold State.noteAccess; split <;> rfl
@[simp] theorem State.noteAccess_timer (s : State) (b : Word) : (s.noteAccess b).timer = s.timer := by unfold State.noteAccess; split <;> rfl
@[simp] theorem State.noteAccess_ppu (s : State) (b : Word) : (s.noteAccess b).ppu = s.ppu := by unfold State.noteAccess; split <;> rfl
@[simp] theorem State.noteAccess_dma (s : State) (b : Word) : (s.noteAccess b).dma = s.dma := by unfold State.noteAccess; split <;> rfl
@[simp] theorem State.noteAccess_joypad (s : State) (b : Word) : (s.noteAccess b).joypad = s.joypad := by unfold State.noteAccess; split <;> rfl
@[simp] theorem State.noteAccess_serial (s : State) (b : Word) : (s.noteAccess b).serial = s.serial := by unfold State.noteAccess; split <;> rfl
@[simp] theorem State.noteAccess_cart (s : State) (b : Word) : (s.noteAccess b).cart = s.cart := by unfold State.noteAccess; split <;> rfl
@[simp] theorem State.noteAccess_mem (s : State) (b : Word) : (s.noteAccess b).mem = s.mem := by unfold State.noteAccess; split <;> rfl
@[simp] theorem State.noteAccess_cycles (s : State) (b : Word) : (s.noteAccess b).cycles = s.cycles := by unfold State.noteAccess; split <;> rfl
@[simp] theorem State.noteAccess_budget (s : State) (b : Word) : (s.noteAccess b).budget = s.budget := by unfold State.noteAccess; split <;> rfl
@[simp] theorem State.noteAccess_params (s : State) (b : Word) : (s.noteAccess b).params = s.params := by unfold State.noteAccess; split <;> rfl
@[simp] theorem State.noteAccess_cpu (s : State) (b : Word) : (s.noteAccess b).cpu = s.cpu := by unfold State.noteAccess; split <;> rfl
@[simp] theorem State.noteAccess_peek (s : State) (b : Word) (a : Word) : (s.noteAccess b).peek a = s.peek a := by unfold State.noteAccess; split <;> rfl
@[simp] theorem State.noteAccess_cellOf (s : State) (b : Word) (a : Word) : (s.noteAccess b).cellOf a = s.cellOf a := by unfold State.noteAccess; split <;> rfl

theorem State.noteAccess_diag (s : State) (b : Word) : (s.noteAccess b).diag = s.diag ++ (accessDiag b).toList := by
  unfold State.noteAccess
  split <;> simp_all

@[simp] theorem State.noteAccess_getReg (s : State) (b : Word) (q : Reg8) : (s.noteAccess b).getReg q = s.getReg q := by
  cases q <;> simp [State.getReg]

@[simp] theorem State.noteAccess_flags (s : State) (b : Word) : (s.noteAccess b).flags = s.flags := by
  simp [State.flags]

@[simp] theorem State.noteAccess_hl (s : State) (b : Word) : (s.noteAccess b).hl = s.hl := by
  simp [State.hl]

/-! ### Registers through their one accessor -/

@[simp] theorem State.getReg_a (s : State) : s.getReg .a = s.cpu.a := rfl
@[simp] theorem State.getReg_b (s : State) : s.getReg .b = s.cpu.b := rfl
@[simp] theorem State.getReg_c (s : State) : s.getReg .c = s.cpu.c := rfl
@[simp] theorem State.getReg_d (s : State) : s.getReg .d = s.cpu.d := rfl
@[simp] theorem State.getReg_e (s : State) : s.getReg .e = s.cpu.e := rfl
@[simp] theorem State.getReg_h (s : State) : s.getReg .h = s.cpu.h := rfl
@[simp] theorem State.getReg_l (s : State) : s.getReg .l = s.cpu.l := rfl

@[simp] theorem State.setReg_a_cpu_a (s : State) (v : Byte) : (s.setReg .a v).cpu.a = v := rfl

/-! ### Pairs -/

@[simp] theorem State.setHl_hl (s : State) (w : Word) : (s.setHl w).hl = w := by simp [State.hl]

theorem State.setHl_getReg (s : State) (w : Word) (q : Reg8) (h : q ≠ .h) (g : q ≠ .l) :
    (s.setHl w).getReg q = s.getReg q := by
  cases q <;> first | rfl | exact absurd rfl h | exact absurd rfl g

theorem State.setPair_getReg (s : State) (p : Pair) (w : Word) (q : Reg8) (h : q ∉ p.regs) :
    (s.setPair p w).getReg q = s.getReg q := by
  cases p <;> cases q <;> first | rfl | simp [Pair.regs] at h

theorem State.setPair_cpu_sp (s : State) (p : Pair) (w : Word) (h : p ≠ .sp) :
    (s.setPair p w).cpu.sp = s.cpu.sp := by
  cases p <;> first | rfl | exact absurd rfl h

theorem State.setStackPair_getReg (s : State) (p : StackPair) (w : Word) (q : Reg8) (h : q ∉ p.regs) :
    (s.setStackPair p w).getReg q = s.getReg q := by
  cases p <;> cases q <;> first | rfl | simp [StackPair.regs] at h

@[simp] theorem State.setCycles_getPair (s : State) (p : Pair) (n : Nat) : (s.setCycles n).getPair p = s.getPair p := by
  cases p <;> rfl

/-- A high-page address is 0xFF00 plus the zero-extended byte (30_encoding.md R121). -/
theorem highPage_eq (n : Byte) : highPage n = 0xFF00 + n.zeroExtend 16 := by
  revert n
  decide

/-- `read8` answers what `peek` answers. -/
@[simp] theorem State.read8_fst (s : State) (a : Word) : (s.read8 a).1 = s.peek a := rfl

@[simp] theorem State.read8_snd (s : State) (a : Word) : (s.read8 a).2 = s.noteAccess a := rfl

/-- A meaning that completes answers the state with the step's cost. -/
theorem finish_eq (n : Nat) (s : State) : finish n s = .next (s.setCycles n) := rfl

end Sys2Proof.Machine
end

