-- ==== Sys2Proof/Laws/Bus.lean ====
section
/-! SUPPORT. The laws of the bus: what an address decodes to, what a read depends on, and everything one `write8` can do. -/

namespace Sys2Proof.Machine

/-! ## Addresses -/

/-- The one address of an I/O register (20_memory.md R61). -/
def Target.address : Target → Option Word
  | .joypad => some 0xFF00
  | .serialData => some 0xFF01
  | .serialControl => some 0xFF02
  | .timer .div => some 0xFF04
  | .timer .tima => some 0xFF05
  | .timer .tma => some 0xFF06
  | .timer .tac => some 0xFF07
  | .intFlag => some 0xFF0F
  | .ppu .lcdc => some 0xFF40
  | .ppu .stat => some 0xFF41
  | .ppu .scy => some 0xFF42
  | .ppu .scx => some 0xFF43
  | .ppu .ly => some 0xFF44
  | .ppu .lyc => some 0xFF45
  | .dma => some 0xFF46
  | .ppu .bgp => some 0xFF47
  | .ppu .obp0 => some 0xFF48
  | .ppu .obp1 => some 0xFF49
  | .ppu .wy => some 0xFF4A
  | .ppu .wx => some 0xFF4B
  | .intEnable => some 0xFFFF
  | .rom _ | .vram _ | .cartRam _ | .wram _ | .echo _ | .oam _ | .prohibited | .audio | .hram _ | .unmapped => none

theorem ioTarget_address (n : Nat) (x : Word) (h : (ioTarget n).address = some x) : x.toNat = 0xFF00 + n := by
  unfold ioTarget at h
  split at h <;>
    first
    | (simp only [Target.address, Option.some.injEq] at h; subst h; rfl)
    | (split at h <;> simp [Target.address] at h)

/-- An I/O register has one address. -/
theorem target_address {a x : Word} (h : (target a).address = some x) : a = x := by
  apply BitVec.eq_of_toNat_eq
  have ha := a.isLt
  simp only [target] at h
  split at h
  · simp [Target.address] at h
  split at h
  · simp [Target.address] at h
  split at h
  · simp [Target.address] at h
  split at h
  · simp [Target.address] at h
  split at h
  · simp [Target.address] at h
  split at h
  · simp [Target.address] at h
  split at h
  · simp [Target.address] at h
  split at h
  · have := ioTarget_address _ _ h
    omega
  split at h
  · simp [Target.address] at h
  · simp only [Target.address, Option.some.injEq] at h
    subst h
    simp
    omega

/-- No I/O address is in a memory window. -/
theorem ioTarget_no_window (n m : Nat) : ioTarget n ≠ .rom m ∧ ioTarget n ≠ .cartRam m := by
  unfold ioTarget
  repeat' split
  all_goals exact ⟨nofun, nofun⟩

/-- The ROM window is 0x0000..0x7FFF. -/
theorem target_rom {a : Word} {n : Nat} (h : target a = .rom n) : a.toNat < 0x8000 ∧ n = a.toNat := by
  simp only [target] at h
  repeat' split at h
  all_goals first
    | exact absurd h (ioTarget_no_window _ _).1
    | (injection h with h; exact ⟨by assumption, h.symm⟩)
    | cases h

/-- The cartridge RAM window is 0xA000..0xBFFF. -/
theorem target_cartRam {a : Word} {n : Nat} (h : target a = .cartRam n) :
    0xA000 ≤ a.toNat ∧ a.toNat < 0xC000 ∧ n = a.toNat - 0xA000 := by
  simp only [target] at h
  repeat' split at h
  all_goals first
    | exact absurd h (ioTarget_no_window _ _).2
    | (injection h with h; exact ⟨by omega, by omega, h.symm⟩)
    | cases h

/-! ## What a read depends on -/

/-- A read depends on the components outside the CPU only. -/
theorem peek_of_sameDevices {s t : State} (h : SameDevices s t) (a : Word) : t.peek a = s.peek a := by
  obtain ⟨h1, h2, h3, h4, h5, h6, h7, h8, -⟩ := h
  unfold State.peek State.readTarget
  rw [h1, h2, h3, h4, h5, h6, h7, h8]

theorem cellOf_of_cart {s t : State} (h : t.cart = s.cart) (a : Word) : t.cellOf a = s.cellOf a := by
  unfold State.cellOf State.targetCell
  rw [h]

/-- An address that names a storage cell reads as that cell. -/
theorem peek_of_cellOf {s : State} {a : Word} {k : Nat} (h : s.cellOf a = some k) :
    s.peek a = Memory.read s.mem k := by
  unfold State.cellOf at h
  unfold State.peek
  generalize target a = t at *
  cases t <;> simp only [State.targetCell, reduceCtorEq, Option.some.injEq] at h
  case cartRam off =>
    simp only [State.readTarget]
    cases hr : s.cart.ramIndex off with
    | none => simp [hr] at h
    | some i =>
      simp only [hr, Option.map_some, Option.some.injEq] at h
      simp [h]
  all_goals subst h; rfl

/-! ## What a write leaves -/

@[simp] theorem State.writeTarget_cpu (s : State) (t : Target) (v : Byte) : (s.writeTarget t v).cpu = s.cpu := by
  cases t <;> try rfl
  all_goals simp only [State.writeTarget, State.writeSc]
  all_goals split <;> rfl

@[simp] theorem State.writeTarget_cycles (s : State) (t : Target) (v : Byte) : (s.writeTarget t v).cycles = s.cycles := by
  cases t <;> try rfl
  all_goals simp only [State.writeTarget, State.writeSc]
  all_goals split <;> rfl

@[simp] theorem State.writeTarget_budget (s : State) (t : Target) (v : Byte) : (s.writeTarget t v).budget = s.budget := by
  cases t <;> try rfl
  all_goals simp only [State.writeTarget, State.writeSc]
  all_goals split <;> rfl

@[simp] theorem State.writeTarget_params (s : State) (t : Target) (v : Byte) : (s.writeTarget t v).params = s.params := by
  cases t <;> try rfl
  all_goals simp only [State.writeTarget, State.writeSc]
  all_goals split <;> rfl

@[simp] theorem State.writeTarget_diag (s : State) (t : Target) (v : Byte) : (s.writeTarget t v).diag = s.diag := by
  cases t <;> try rfl
  all_goals simp only [State.writeTarget, State.writeSc]
  all_goals split <;> rfl

@[simp] theorem State.write8_cpu (s : State) (a : Word) (v : Byte) : (s.write8 a v).cpu = s.cpu := by
  simp [State.write8]

@[simp] theorem State.write8_cycles (s : State) (a : Word) (v : Byte) : (s.write8 a v).cycles = s.cycles := by
  simp [State.write8]

@[simp] theorem State.write8_budget (s : State) (a : Word) (v : Byte) : (s.write8 a v).budget = s.budget := by
  simp [State.write8]

@[simp] theorem State.write8_params (s : State) (a : Word) (v : Byte) : (s.write8 a v).params = s.params := by
  simp [State.write8]

theorem State.write8_diag (s : State) (a : Word) (v : Byte) :
    (s.write8 a v).diag = s.diag ++ (accessDiag a).toList := by
  simp [State.write8, State.noteAccess_diag]

@[simp] theorem State.write8_getReg (s : State) (a : Word) (v : Byte) (q : Reg8) :
    (s.write8 a v).getReg q = s.getReg q := by
  cases q <;> simp

@[simp] theorem State.write8_flags (s : State) (a : Word) (v : Byte) : (s.write8 a v).flags = s.flags := by
  simp [State.flags]

@[simp] theorem State.write8_hl (s : State) (a : Word) (v : Byte) : (s.write8 a v).hl = s.hl := by
  simp [State.hl]

/-- Writing a target acts on the components outside the CPU by those components alone. -/
theorem writeTarget_sameDevices {s t : State} (h : SameDevices s t) (x : Target) (v : Byte) :
    SameDevices (s.writeTarget x v) (t.writeTarget x v) := by
  obtain ⟨h1, h2, h3, h4, h5, h6, h7, h8, h9⟩ := h
  cases x <;> simp only [State.writeTarget, State.writeSc, State.writeSb, State.writeCell, State.raiseIrq, SameDevices,
    h1, h2, h3, h4, h5, h6, h7, h8, h9, and_self]
  all_goals split <;> simp only [h1, h2, h3, h4, h5, h6, h7, h8, h9, and_self]

theorem sameDevices_noteAccess (s : State) (a : Word) : SameDevices s (s.noteAccess a) := by
  simp [SameDevices]

theorem SameDevices.trans {s t u : State} (h : SameDevices s t) (g : SameDevices t u) : SameDevices s u := by
  obtain ⟨h1, h2, h3, h4, h5, h6, h7, h8, h9, h10⟩ := h
  obtain ⟨g1, g2, g3, g4, g5, g6, g7, g8, g9, g10⟩ := g
  exact ⟨g1.trans h1, g2.trans h2, g3.trans h3, g4.trans h4, g5.trans h5, g6.trans h6, g7.trans h7, g8.trans h8, g9.trans h9,
    g10.trans h10⟩

theorem write8_sameDevices {s t : State} (h : SameDevices s t) (a : Word) (v : Byte) :
    SameDevices (s.write8 a v) (t.write8 a v) := by
  unfold State.write8
  refine writeTarget_sameDevices ?_ _ _
  obtain ⟨h1, h2, h3, h4, h5, h6, h7, h8, h9⟩ := h
  simp [SameDevices, h1, h2, h3, h4, h5, h6, h7, h8, h9]

/-- A write to an address that names a storage cell writes that cell and nothing else but the log. -/
theorem write8_of_cellOf {s : State} {a : Word} {k : Nat} (h : s.cellOf a = some k) (v : Byte) :
    s.write8 a v = (s.noteAccess a).writeCell k v := by
  unfold State.cellOf at h
  unfold State.write8
  generalize hn : s.noteAccess a = n
  have hc : n.cart = s.cart := by rw [← hn]; simp
  generalize target a = t at *
  cases t <;> simp only [State.targetCell, reduceCtorEq, Option.some.injEq] at h
  case cartRam off =>
    simp only [State.writeTarget, hc]
    cases hr : s.cart.ramIndex off with
    | none => simp [hr] at h
    | some i =>
      simp only [hr, Option.map_some, Option.some.injEq] at h
      simp [h]
  all_goals subst h; rfl

/-- A cell written reads back through every address that names it. -/
theorem peek_write8_cell {s : State} {a b : Word} {k : Nat} (ha : s.cellOf a = some k) (hb : s.cellOf b = some k)
    (v : Byte) : (s.write8 a v).peek b = v := by
  rw [write8_of_cellOf ha]
  have : ((s.noteAccess a).writeCell k v).cellOf b = some k := by
    rw [cellOf_of_cart (s := s)]
    · exact hb
    · simp
  rw [peek_of_cellOf this]
  simp [Memory.read_write]

theorem peek_writeCell_other {s : State} {k : Nat} {v : Byte} {b : Word} (h : s.cellOf b ≠ some k) :
    (s.writeCell k v).peek b = s.peek b := by
  cases hb : s.cellOf b with
  | some j =>
    have : (s.writeCell k v).cellOf b = some j := by simpa using hb
    rw [peek_of_cellOf this, peek_of_cellOf hb]
    have : j ≠ k := fun e => h (by rw [hb, e])
    simp [Memory.read_write, this]
  | none =>
    unfold State.cellOf at hb
    unfold State.peek
    generalize target b = t at *
    cases t <;> simp only [State.targetCell, reduceCtorEq, Option.map_eq_none_iff] at hb
    case cartRam off => simp [State.readTarget, hb]
    all_goals rfl

/-- A write to an I/O register changes no other address's reading, but that a write to SC can change IF's. -/
theorem readTarget_writeTarget_of_ne (s : State) {x y : Target} (v : Byte) (hx : x.address ≠ none) (hne : y ≠ x)
    (hs : x = .serialControl → y ≠ .intFlag) : (s.writeTarget x v).readTarget y = s.readTarget y := by
  cases x
  case rom | vram | cartRam | wram | echo | oam | prohibited | audio | hram | unmapped => exact absurd rfl hx
  case serialControl =>
    simp only [State.writeTarget, State.writeSc]
    split <;> cases y <;> first | rfl | exact absurd rfl hne | exact absurd rfl (hs rfl)
  case timer r =>
    cases y <;> try rfl
    case timer q => cases r <;> cases q <;> first | rfl | exact absurd rfl hne
  case ppu r =>
    cases y <;> try rfl
    case ppu q => cases r <;> cases q <;> first | rfl | exact absurd rfl hne
  all_goals cases y <;> first | rfl | exact absurd rfl hne

/-- An address that the write does not touch reads as before. -/
theorem peek_write8_untouched {s : State} {a b : Word} (h : ¬ s.Touches a b) (v : Byte) :
    (s.write8 a v).peek b = s.peek b := by
  cases hc : s.cellOf a with
  | some k =>
    rw [write8_of_cellOf hc]
    have : s.cellOf b ≠ some k := by
      intro hb
      apply h
      unfold State.Touches
      unfold State.cellOf at hc hb ⊢
      cases ht : target a <;> simp only [ht, State.targetCell, reduceCtorEq] at hc
      all_goals exact ⟨k, by simpa [State.targetCell] using hc, hb⟩
    rw [peek_writeCell_other (by simpa using this)]
    simp
  | none =>
    have key : ∀ x : Word, (target a).address = some x → b ≠ a → (target a = .serialControl → b ≠ 0xFF0F) →
        (s.write8 a v).peek b = s.peek b := by
      intro x hx hb hs
      unfold State.write8
      rw [← State.noteAccess_peek s a b]
      refine readTarget_writeTarget_of_ne _ v (by rw [hx]; simp) ?_ ?_
      · intro e
        exact hb ((target_address (e ▸ hx)).trans (target_address hx).symm)
      · intro e g
        exact hs e (target_address (by rw [g]; rfl))
    unfold State.Touches at h
    unfold State.cellOf at hc
    cases ht : target a <;> simp only [ht, State.targetCell, reduceCtorEq, Option.map_eq_none_iff, not_or, not_and] at h hc
    case rom n =>
      have hr := (target_rom ht).1
      unfold State.write8 State.peek
      rw [ht]
      cases hb : target b with
      | rom m => have := (target_rom hb).1; omega
      | cartRam m => have := target_cartRam hb; omega
      | _ => simp [State.writeTarget, State.readTarget]
    case cartRam off =>
      unfold State.write8
      simp [ht, State.writeTarget, hc]
    case prohibited | audio | unmapped =>
      unfold State.write8
      simp [ht, State.writeTarget]
    case serialControl =>
      have ha := target_address (a := a) (x := 0xFF02) (by rw [ht]; rfl)
      exact key 0xFF02 (by rw [ht]; rfl) (by rw [ha]; exact h.1) (fun _ => h.2)
    case timer r => cases r <;> exact key _ (by rw [ht]; rfl) h (by rw [ht]; simp)
    case ppu r => cases r <;> exact key _ (by rw [ht]; rfl) h (by rw [ht]; simp)
    all_goals exact key _ (by rw [ht]; rfl) h (by rw [ht]; simp)

/-! ## Stores -/

/-- The events of one access. -/
theorem events_one (a : Word) : [a].filterMap accessDiag = (accessDiag a).toList := by
  rw [List.filterMap_cons]
  split <;> next h => rw [h]; rfl

/-- The events of a list of accesses, the first apart. -/
theorem events_cons (a : Word) (rest : List Word) :
    (a :: rest).filterMap accessDiag = (accessDiag a).toList ++ rest.filterMap accessDiag := by
  rw [List.filterMap_cons]
  split <;> next h => rw [h]; rfl

/-- A state whose devices are those of one bus write has the effect of that write. -/
theorem storesByte_of {s t : State} {reads : List Word} {a : Word} {v : Byte} (h : SameDevices (s.write8 a v) t)
    (hl : Logged s t (reads ++ [a])) : StoresByte s t reads a v :=
  ⟨h, hl, fun _ b ha hb => (peek_of_sameDevices h b).trans (peek_write8_cell ha hb v),
    fun b hb => (peek_of_sameDevices h b).trans (peek_write8_untouched hb v)⟩

theorem write8_cart_of_cellOf {s : State} {a : Word} {k : Nat} (h : s.cellOf a = some k) (v : Byte) :
    (s.write8 a v).cart = s.cart := by
  rw [write8_of_cellOf h]
  simp

/-- A state whose devices are those of a 16-bit bus write has the effect of that write. -/
theorem storesWord_of {s t : State} {a v : Word} (h : SameDevices ((s.write8 a (loByte v)).write8 (a + 1) (hiByte v)) t)
    (hl : Logged s t [a, a + 1]) : StoresWord s t a v := by
  refine ⟨h, hl, fun j k b ha hk hjk => ?_, fun b h1 h2 => ?_⟩
  · have hc : ∀ c, (s.write8 a (loByte v)).cellOf c = s.cellOf c := fun c => cellOf_of_cart (write8_cart_of_cellOf ha _) c
    refine ⟨fun hb => ?_, fun hb => ?_⟩
    · rw [peek_of_sameDevices h b, write8_of_cellOf (hc (a + 1) ▸ hk), peek_writeCell_other]
      · simpa using peek_write8_cell ha hb (loByte v)
      · simp only [State.noteAccess_cellOf, hc, hb]
        exact fun e => hjk (by injection e)
    · rw [peek_of_sameDevices h b]
      exact peek_write8_cell ((hc _).trans hk) ((hc _).trans hb) _
  · rw [peek_of_sameDevices h b, peek_write8_untouched h2, peek_write8_untouched h1]

/-- A bus write keeps byte storage canonical. -/
theorem write8_mem_wf {s : State} (h : Memory.wf s.mem) (a : Word) (v : Byte) : Memory.wf (s.write8 a v).mem := by
  unfold State.write8
  rw [← State.noteAccess_mem s a] at h
  generalize s.noteAccess a = n at *
  cases target a <;> simp only [State.writeTarget]
  case cartRam off =>
    cases n.cart.ramIndex off with
    | none => exact h
    | some i => exact Memory.write_wf h _ _
  case serialControl =>
    unfold State.writeSc
    simp only
    split <;> exact h
  all_goals first | exact h | exact Memory.write_wf h _ _

/-- Everything a bus write can do to the cartridge: nothing, or an MBC1 register write. -/
theorem write8_cart (s : State) (a : Word) (v : Byte) :
    (s.write8 a v).cart = s.cart ∨ a.toNat < 0x8000 ∧ (s.write8 a v).cart = s.cart.writeRom a.toNat v := by
  unfold State.write8
  cases ht : target a <;> simp only [State.writeTarget]
  case rom n =>
    obtain ⟨h1, rfl⟩ := target_rom ht
    right
    simp [h1]
  case cartRam off =>
    left
    split <;> simp
  case serialControl =>
    left
    unfold State.writeSc
    simp only
    split <;> simp
  all_goals left; simp [State.writeSb]

/-- A bus write never changes the ROM image or the cartridge's sizes (10_state.md R36). -/
theorem write8_rom (s : State) (a : Word) (v : Byte) :
    (s.write8 a v).cart.rom = s.cart.rom ∧ (s.write8 a v).cart.romLen = s.cart.romLen ∧
    (s.write8 a v).cart.romSizeCode = s.cart.romSizeCode ∧ (s.write8 a v).cart.ramSize = s.cart.ramSize := by
  rcases write8_cart s a v with h | ⟨-, h⟩
  · simp [h]
  · rw [h]
    unfold Cart.writeRom
    split <;> simp

/-! ## The stack -/

@[simp] theorem State.push16_getReg (s : State) (v : Word) (q : Reg8) : (s.push16 v).getReg q = s.getReg q := by
  simp [State.push16, State.write16]

@[simp] theorem State.push16_flags (s : State) (v : Word) : (s.push16 v).flags = s.flags := by
  simp [State.push16, State.write16]

theorem State.push16_cpu (s : State) (v : Word) : (s.push16 v).cpu = { s.cpu with sp := s.cpu.sp - 2 } := by
  simp [State.push16, State.write16, State.setSp]

theorem State.push16_diag (s : State) (v : Word) :
    (s.push16 v).diag = s.diag ++ [s.cpu.sp - 2, s.cpu.sp - 2 + 1].filterMap accessDiag := by
  rw [events_cons, events_one, ← List.append_assoc]
  simp only [State.push16, State.write16, State.write8_diag, State.setSp_diag]

theorem sameDevices_of_cpu (s : State) (c : Cpu) : SameDevices s { s with cpu := c } := by
  simp [SameDevices]

theorem SameDevices.refl (s : State) : SameDevices s s := by simp [SameDevices]

/-- `push16` stores v at the new SP, the low byte first (00_scope.md R11). -/
theorem push16_storesWord (s : State) (v : Word) : StoresWord s (s.push16 v) (s.cpu.sp - 2) v := by
  refine storesWord_of ?_ (s.push16_diag v)
  unfold State.push16 State.write16
  exact write8_sameDevices (write8_sameDevices (sameDevices_of_cpu _ _) _ _) _ _

theorem State.pop16_fst (s : State) : s.pop16.1 = mkWord (s.peek (s.cpu.sp + 1)) (s.peek s.cpu.sp) := by
  simp [State.pop16, State.read16]

theorem State.pop16_snd (s : State) :
    s.pop16.2 = ((s.noteAccess s.cpu.sp).noteAccess (s.cpu.sp + 1)).setSp (s.cpu.sp + 2) := by
  simp [State.pop16, State.read16]

end Sys2Proof.Machine
end

