-- ==== Sys2Proof/Laws/Construct.lean ====
section
/-! SUPPORT. Byte storage as construction leaves it (10_state.md R50): canonical, each location at its byte of INIT_RAM. -/

namespace Sys2Proof.Machine

/-- The cells of one array of INIT_RAM are its own. -/
theorem part_bounds {base size : Nat} {bytes : List Byte} {c : Host.Cell}
    (h : c ∈ Memory.ofBytes base (bytes.take size)) : base ≤ c.1 ∧ c.1 < base + size := by
  have hb := Memory.ofBytes_below h
  have ha := Memory.ofBytes_above h
  have hl := List.length_take_le size bytes
  omega

/-- A location of an array reads as its byte of INIT_RAM, and as 0x00 beyond the list. -/
theorem read_part (base size : Nat) (bytes : List Byte) {i : Nat} (h : i < size) :
    Memory.read (Memory.ofBytes base (bytes.take size)) (base + i) = bytes.getD i 0x00 := by
  rw [Memory.read_ofBytes, if_pos (Nat.le_add_right _ _), Nat.add_sub_cancel_left]
  simp [List.getD_eq_getElem?_getD, List.getElem?_take_of_lt h, Memory.unlisted]

/-- Past a part's cells, two parts read as what follows. -/
theorem read_part_append {base size k : Nat} {bytes : List Byte} (m : Memory) (h : base + size ≤ k) :
    Memory.read (Memory.ofBytes base (bytes.take size) ++ m) k = Memory.read m k :=
  Memory.read_append_right _ _ _ fun _ hc => by have := part_bounds hc; omega

/-- In its own cells a part reads as its bytes, whatever lies above it. -/
theorem read_part_first {base size i : Nat} {bytes : List Byte} {m : Memory} (h : i < size)
    (hm : ∀ c ∈ m, base + size ≤ c.1) :
    Memory.read (Memory.ofBytes base (bytes.take size) ++ m) (base + i) = bytes.getD i 0x00 := by
  rw [Memory.read_append_left _ _ _ fun c hc => by have := hm c hc; omega, read_part _ _ _ h]

/-- A part and what lies above it lie above a lower bound of both. -/
theorem part_append_above {b base size : Nat} {bytes : List Byte} {m : Memory} (h : b ≤ base) (hm : ∀ c ∈ m, b ≤ c.1) :
    ∀ c ∈ Memory.ofBytes base (bytes.take size) ++ m, b ≤ c.1 := fun c hc =>
  (List.mem_append.mp hc).elim (fun hc => h.trans (part_bounds hc).1) (hm c)

theorem part_above {b base size : Nat} {bytes : List Byte} (h : b ≤ base) :
    ∀ c ∈ Memory.ofBytes base (bytes.take size), b ≤ c.1 := fun _ hc => h.trans (part_bounds hc).1

theorem append_part_wf {base size : Nat} {bytes : List Byte} {m : Memory} (hw : Memory.wf m)
    (hm : ∀ c ∈ m, base + size ≤ c.1) : Memory.wf (Memory.ofBytes base (bytes.take size) ++ m) :=
  Memory.append_wf (Memory.ofBytes_wf _ _) hw fun _ hc d hd => (part_bounds hc).2.trans_le (hm d hd)

section

variable (ram : Config.InitRam) {n i : Nat}

theorem above_vram : ∀ c ∈ Memory.ofBytes (wramCell 0) (ram.wram.take 0x2000) ++ (Memory.ofBytes (oamCell 0) (ram.oam.take 160) ++
    (Memory.ofBytes (hramCell 0) (ram.hram.take 127) ++ Memory.ofBytes (cramCell 0) (ram.cram.take n))),
    vramCell 0 + 0x2000 ≤ c.1 :=
  part_append_above (by decide) (part_append_above (by decide) (part_append_above (by decide) (part_above (by decide))))

theorem above_wram : ∀ c ∈ Memory.ofBytes (oamCell 0) (ram.oam.take 160) ++
    (Memory.ofBytes (hramCell 0) (ram.hram.take 127) ++ Memory.ofBytes (cramCell 0) (ram.cram.take n)),
    wramCell 0 + 0x2000 ≤ c.1 :=
  part_append_above (by decide) (part_append_above (by decide) (part_above (by decide)))

theorem above_oam : ∀ c ∈ Memory.ofBytes (hramCell 0) (ram.hram.take 127) ++ Memory.ofBytes (cramCell 0) (ram.cram.take n),
    oamCell 0 + 160 ≤ c.1 :=
  part_append_above (by decide) (part_above (by decide))

theorem above_hram : ∀ c ∈ Memory.ofBytes (cramCell 0) (ram.cram.take n), hramCell 0 + 127 ≤ c.1 := part_above (by decide)

/-- The arrays lie one above the other. -/
theorem initialMemory_wf (n : Nat) : Memory.wf (initialMemory ram n) :=
  append_part_wf (append_part_wf (append_part_wf (append_part_wf (Memory.ofBytes_wf _ _) (above_hram ram)) (above_oam ram))
    (above_wram ram)) (above_vram ram)

theorem initialMemory_vram (h : i < 0x2000) : Memory.read (initialMemory ram n) (vramCell i) = ram.vram.getD i 0x00 :=
  read_part_first h (above_vram ram)

theorem initialMemory_wram (h : i < 0x2000) : Memory.read (initialMemory ram n) (wramCell i) = ram.wram.getD i 0x00 := by
  unfold initialMemory
  rw [read_part_append _ (by simp only [vramCell, wramCell]; omega)]
  exact read_part_first h (above_wram ram)

theorem initialMemory_oam (h : i < 160) : Memory.read (initialMemory ram n) (oamCell i) = ram.oam.getD i 0x00 := by
  unfold initialMemory
  rw [read_part_append _ (by simp only [vramCell, oamCell]; omega),
    read_part_append _ (by simp only [wramCell, oamCell]; omega)]
  exact read_part_first h (above_oam ram)

theorem initialMemory_hram (h : i < 127) : Memory.read (initialMemory ram n) (hramCell i) = ram.hram.getD i 0x00 := by
  unfold initialMemory
  rw [read_part_append _ (by simp only [vramCell, hramCell]; omega),
    read_part_append _ (by simp only [wramCell, hramCell]; omega),
    read_part_append _ (by simp only [oamCell, hramCell]; omega)]
  exact read_part_first h (above_hram ram)

theorem initialMemory_cram (h : i < n) : Memory.read (initialMemory ram n) (cramCell i) = ram.cram.getD i 0x00 := by
  unfold initialMemory
  rw [read_part_append _ (by simp only [vramCell, cramCell]; omega),
    read_part_append _ (by simp only [wramCell, cramCell]; omega),
    read_part_append _ (by simp only [oamCell, cramCell]; omega),
    read_part_append _ (by simp only [hramCell, cramCell]; omega)]
  exact read_part _ _ _ h

end

end Sys2Proof.Machine
end

