-- ==== Sys2Proof/Laws/Decode.lean ====
section
/-! SUPPORT. What the decoder's two maps hold, row by row: each cell against the encoder, and the CB map against the meaning
of the escape. -/

namespace Sys2Proof

/-- What a cell of the base map must be: a well-formed instruction whose bytes begin with this opcode. -/
def RowAgrees (op : Byte) : BaseRow → Prop
  | .plain i => i.WellFormed = true ∧ encode i = [op]
  | .imm8 f => ∀ v, (f v).WellFormed = true ∧ encode (f v) = [op, v]
  | .imm16 f => ∀ w, (f w).WellFormed = true ∧ encode (f w) = [op, loByte w, hiByte w]
  | .escape => op = 0xCB

/-- Every cell of the base map agrees with the encoder. -/
theorem baseRow_agrees (op : Byte) : RowAgrees op (baseRow op) := by
  rw [show op = BitVec.ofNat 8 op.toNat by simp]
  have h : op.toNat < 256 := op.isLt
  generalize op.toNat = n at h
  interval_cases n <;> first
    | exact And.intro (Eq.refl true) (Eq.refl [_])
    | exact fun v => And.intro (Eq.refl true) (Eq.refl [_, v])
    | exact fun w => And.intro (Eq.refl true) (Eq.refl [_, loByte w, hiByte w])
    | exact Eq.refl (0xCB : Byte)

/-- Every cell of the CB map agrees with the encoder. -/
theorem cbRow_agrees (cb : Byte) : (cbRow cb).WellFormed = true ∧ encode (cbRow cb) = [0xCB, cb] := by
  revert cb
  decide +kernel

/-- A row with an immediate word, decoded from its bytes. -/
theorem decode_word {op : Byte} {f : Word → Instr} (h : baseRow op = .imm16 f) (w : Word) (rest : List Byte) :
    decode (op :: loByte w :: hiByte w :: rest) = .ok (f w, rest) := by
  unfold decode
  simp [h]

/-- Where an instruction stands in the maps: its row and the bytes of that row. -/
inductive Placed (i : Instr) : Prop where
  | plain (op : Byte) : baseRow op = .plain i → encode i = [op] → Placed i
  | imm8 (op : Byte) (f : Byte → Instr) (v : Byte) : baseRow op = .imm8 f → i = f v → encode i = [op, v] → Placed i
  | imm16 (op : Byte) (f : Word → Instr) (w : Word) : baseRow op = .imm16 f → i = f w →
      encode i = [op, loByte w, hiByte w] → Placed i
  | escape (cb : Byte) : cbRow cb = i → encode i = [0xCB, cb] → Placed i

/-- Every well-formed instruction has its place. -/
theorem Instr.placed (i : Instr) (h : i.WellFormed = true) : Placed i := by
  cases i
  case prefixCb => exact absurd h (by simp [Instr.WellFormed])
  all_goals first
    | exact .plain _ rfl rfl
    | exact .escape _ rfl rfl
    | exact .imm8 _ _ _ rfl rfl rfl
    | exact .imm16 _ _ _ rfl rfl rfl

namespace Machine

/-- A CB row and the escape with that byte have one meaning (47_cpu_control.md R355). -/
theorem exec_cbRow (cb : Byte) (s : State) : exec (cbRow cb) s = runCb cb s := by
  rw [show cb = BitVec.ofNat 8 cb.toNat by simp]
  have h : cb.toNat < 256 := cb.isLt
  generalize cb.toNat = n at h
  interval_cases n <;> rfl

end Machine

end Sys2Proof
end

