-- ==== Sys2Proof/Laws/Regions.lean ====
section
/-! SUPPORT. The address map, region by region: the target of an address from its bounds (20_memory.md R61). -/

namespace Sys2Proof.Machine

variable {a : Word}

theorem target_rom_of (h : a.toNat < 0x8000) : target a = .rom a.toNat := if_pos h

/-- Past the windows of R61 that end at or below an address, the decode is that of the rest of the table. -/
theorem target_above_wram (h : 0xE000 ≤ a.toNat) : target a =
    if a.toNat < 0xFE00 then .echo (a.toNat - 0xE000)
    else if a.toNat < 0xFEA0 then .oam (a.toNat - 0xFE00)
    else if a.toNat < 0xFF00 then .prohibited
    else if a.toNat < 0xFF80 then ioTarget (a.toNat - 0xFF00)
    else if a.toNat < 0xFFFF then .hram (a.toNat - 0xFF80)
    else .intEnable := by
  have low : ∀ n, n ≤ 0xE000 → ¬ a.toNat < n := fun n hn hlt => absurd (hlt.trans_le hn) h.not_gt
  simp only [target, low _ (show 0x8000 ≤ 0xE000 by decide), low _ (show 0xA000 ≤ 0xE000 by decide),
    low _ (show 0xC000 ≤ 0xE000 by decide), low _ le_rfl, if_false]

theorem target_vram_of (h : 0x8000 ≤ a.toNat) (g : a.toNat < 0xA000) : target a = .vram (a.toNat - 0x8000) := by
  simp only [target, h.not_gt, g, if_true, if_false]

theorem target_cartRam_of (h : 0xA000 ≤ a.toNat) (g : a.toNat < 0xC000) : target a = .cartRam (a.toNat - 0xA000) := by
  have h8 : ¬ a.toNat < 0x8000 := by omega
  simp only [target, h8, h.not_gt, g, if_true, if_false]

theorem target_wram_of (h : 0xC000 ≤ a.toNat) (g : a.toNat < 0xE000) : target a = .wram (a.toNat - 0xC000) := by
  have h8 : ¬ a.toNat < 0x8000 := by omega
  have hA : ¬ a.toNat < 0xA000 := by omega
  simp only [target, h8, hA, h.not_gt, g, if_true, if_false]

theorem target_echo_of (h : 0xE000 ≤ a.toNat) (g : a.toNat < 0xFE00) : target a = .echo (a.toNat - 0xE000) := by
  rw [target_above_wram h, if_pos g]

theorem target_oam_of (h : 0xFE00 ≤ a.toNat) (g : a.toNat < 0xFEA0) : target a = .oam (a.toNat - 0xFE00) := by
  rw [target_above_wram (by omega), if_neg h.not_gt, if_pos g]

/-- The decode from the end of OAM on. -/
theorem target_above_oam (h : 0xFEA0 ≤ a.toNat) : target a =
    if a.toNat < 0xFF00 then .prohibited
    else if a.toNat < 0xFF80 then ioTarget (a.toNat - 0xFF00)
    else if a.toNat < 0xFFFF then .hram (a.toNat - 0xFF80)
    else .intEnable := by
  have hE : ¬ a.toNat < 0xFE00 := by omega
  rw [target_above_wram (by omega), if_neg hE, if_neg h.not_gt]

theorem target_prohibited_of (h : 0xFEA0 ≤ a.toNat) (g : a.toNat < 0xFF00) : target a = .prohibited := by
  rw [target_above_oam h, if_pos g]

theorem target_io_of (h : 0xFF00 ≤ a.toNat) (g : a.toNat < 0xFF80) : target a = ioTarget (a.toNat - 0xFF00) := by
  rw [target_above_oam (by omega), if_neg h.not_gt, if_pos g]

theorem target_audio_of (h : 0xFF10 ≤ a.toNat) (g : a.toNat ≤ 0xFF3F) : target a = .audio := by
  rw [target_io_of (by omega) (by omega)]
  have h' : 0x10 ≤ a.toNat - 0xFF00 := by omega
  have g' : a.toNat - 0xFF00 ≤ 0x3F := by omega
  generalize a.toNat - 0xFF00 = n at h' g'
  interval_cases n <;> rfl

theorem target_unmapped_of (h : 0xFF4C ≤ a.toNat) (g : a.toNat ≤ 0xFF7F) : target a = .unmapped := by
  rw [target_io_of (by omega) (by omega)]
  have h' : 0x4C ≤ a.toNat - 0xFF00 := by omega
  have g' : a.toNat - 0xFF00 ≤ 0x7F := by omega
  generalize a.toNat - 0xFF00 = n at h' g'
  interval_cases n <;> rfl

theorem target_hram_of (h : 0xFF80 ≤ a.toNat) (g : a.toNat < 0xFFFF) : target a = .hram (a.toNat - 0xFF80) := by
  have hF : ¬ a.toNat < 0xFF00 := by omega
  rw [target_above_oam (by omega), if_neg hF, if_neg h.not_gt, if_pos g]

end Sys2Proof.Machine
end

