-- ==== Sys2Proof/Laws/Exec.lean ====
section
/-! SUPPORT. `exec` at each shape of operands, one lemma per shape: what a proof about a rule cites instead of a case split
over its constructors. -/

namespace Sys2Proof.Machine

theorem exec_ldRegReg (dst src : Reg8) (s : State) : exec (Instr.ldRegReg dst src) s = finish 4 (loadRegReg dst src s) := by
  cases dst <;> cases src <;> rfl

theorem exec_ldRegMem (dst : Reg8) (s : State) : exec (Instr.ldRegMem dst) s = finish 8 (loadRegMem dst s) := by
  cases dst <;> rfl

theorem exec_ldMemReg (r : Reg8) (s : State) : exec (Instr.ldMemReg r) s = finish 8 (loadMemReg r s) := by
  cases r <;> rfl

theorem exec_ldRegImm (dst : Reg8) (v : Byte) (s : State) : exec (Instr.ldRegImm dst v) s = finish 8 (loadRegImm dst v s) := by
  cases dst <;> rfl

theorem exec_ldPairImm (p : Pair) (w : Word) (s : State) : exec (Instr.ldPairImm p w) s = finish 12 (loadPairImm p w s) := by
  cases p <;> rfl

theorem exec_pushPair (p : StackPair) (s : State) : exec (Instr.pushPair p) s = finish 16 (pushPair p s) := by
  cases p <;> rfl

theorem exec_popPair (p : StackPair) (s : State) : exec (Instr.popPair p) s = finish 12 (popPair p s) := by
  cases p <;> rfl

theorem exec_aluInstr (op : AluOp) (src : Source) (s : State) : exec (aluInstr op src) s = finish src.cost (aluFrom op src s) := by
  cases src with
  | reg r => cases op <;> cases r <;> rfl
  | memHL => cases op <;> rfl
  | imm v => cases op <;> rfl

theorem exec_incInstr (p : Place) (s : State) : exec (incInstr p) s = finish (p.cost 4 12) (incPlace p s) := by
  cases p with
  | reg r => cases r <;> rfl
  | memHL => rfl

theorem exec_decInstr (p : Place) (s : State) : exec (decInstr p) s = finish (p.cost 4 12) (decPlace p s) := by
  cases p with
  | reg r => cases r <;> rfl
  | memHL => rfl

theorem exec_incPair (p : Pair) (s : State) : exec (Instr.incPair p) s = finish 8 (incPair p s) := by
  cases p <;> rfl

theorem exec_decPair (p : Pair) (s : State) : exec (Instr.decPair p) s = finish 8 (decPair p s) := by
  cases p <;> rfl

theorem exec_addHLPair (p : Pair) (s : State) : exec (Instr.addHLPair p) s = finish 8 (addHlPair p s) := by
  cases p <;> rfl

theorem exec_shiftInstr (o : ShiftOp) (p : Place) (s : State) : exec (shiftInstr o p) s = finish (p.cost 8 16) (shiftPlace o p s) := by
  cases p with
  | reg r => cases o <;> cases r <;> rfl
  | memHL => cases o <;> rfl

theorem exec_bitInstr (n : Fin 8) (p : Place) (s : State) : exec (bitInstr n p) s = finish (p.cost 8 12) (testBit n p s) := by
  cases p with
  | reg r => fin_cases n <;> cases r <;> rfl
  | memHL => fin_cases n <;> rfl

theorem exec_resInstr (n : Fin 8) (p : Place) (s : State) : exec (resInstr n p) s = finish (p.cost 8 16) (resetBit n p s) := by
  cases p with
  | reg r => fin_cases n <;> cases r <;> rfl
  | memHL => fin_cases n <;> rfl

theorem exec_setInstr (n : Fin 8) (p : Place) (s : State) : exec (setInstr n p) s = finish (p.cost 8 16) (setBit n p s) := by
  cases p with
  | reg r => fin_cases n <;> cases r <;> rfl
  | memHL => fin_cases n <;> rfl

theorem exec_jpCond (cc : Cond) (a : Word) (s : State) : exec (Instr.jpCond cc a) s = finish (takenCost cc 16 12 s) (jumpIf cc a s) := by
  cases cc <;> rfl

theorem exec_jrCond (cc : Cond) (e : Byte) (s : State) : exec (Instr.jrCond cc e) s = finish (takenCost cc 12 8 s) (jumpRelIf cc e s) := by
  cases cc <;> rfl

theorem exec_callCond (cc : Cond) (a : Word) (s : State) : exec (Instr.callCond cc a) s = finish (takenCost cc 24 12 s) (callIf cc a s) := by
  cases cc <;> rfl

theorem exec_retCond (cc : Cond) (s : State) : exec (Instr.retCond cc) s = finish (takenCost cc 20 8 s) (returnIf cc s) := by
  cases cc <;> rfl

theorem exec_rst (y : Fin 8) (s : State) : exec (Instr.rst y) s = finish 16 (callTo (BitVec.ofNat 16 (8 * y.val)) s) := by
  fin_cases y <;> rfl

theorem exec_undefinedOp (k : Fin 11) (s : State) : exec (Instr.undefinedOp k) s = finish 4 (undefinedOpcode (Instr.undefinedByte k) s) := by
  fin_cases k <;> rfl

/-- The CB escape runs the row of its second byte. -/
theorem exec_prefixCb (cb : Byte) (s : State) : exec (.prefixCb cb) s = runCb cb s := rfl

end Sys2Proof.Machine
end

