-- ==== Sys2Proof/Laws/Step.lean ====
section
/-! SUPPORT. What a step can do, said once: the meanings reach their states by register updates, bus accesses and log
entries only, and a step is one of five branches followed by the IME tick and the device updates. -/

namespace Sys2Proof.Machine

/-- An update of the CPU that keeps bits 3..0 of F zero, keeps a pending delay positive where EI_DELAY and DI_DELAY are, and
leaves IME alone. -/
structure CpuMove (p : Config.Params) (c d : Cpu) : Prop where
  flags : c.f &&& 0x0F = 0 → d.f &&& 0x0F = 0
  enable : 0 < p.eiDelay → (∀ n, c.imeEnableDelay = some n → 0 < n) → ∀ n, d.imeEnableDelay = some n → 0 < n
  disable : 0 < p.diDelay → (∀ n, c.imeDisableDelay = some n → 0 < n) → ∀ n, d.imeDisableDelay = some n → 0 < n
  ime : d.ime = c.ime

/-- The state is reached by register updates, bus accesses and log entries. -/
inductive Reach (s : State) : State → Prop where
  | refl : Reach s s
  | cpu {t : State} {c : Cpu} : Reach s t → CpuMove t.params t.cpu c → Reach s { t with cpu := c }
  | access {t : State} (a : Word) : Reach s t → Reach s (t.noteAccess a)
  | write {t : State} (a : Word) (v : Byte) : Reach s t → Reach s (t.write8 a v)
  | log {t : State} (e : Diag) : Reach s t → Reach s (t.logDiag e)

variable {s t : State}

/-! ## The operations reach -/

theorem CpuMove.same {p : Config.Params} {c d : Cpu} (hf : d.f = c.f) (he : d.imeEnableDelay = c.imeEnableDelay)
    (hd : d.imeDisableDelay = c.imeDisableDelay) (hi : d.ime = c.ime) : CpuMove p c d :=
  ⟨fun h => by rw [hf]; exact h, fun _ h => by rw [he]; exact h, fun _ h => by rw [hd]; exact h, hi⟩

theorem Reach.setReg (h : Reach s t) (r : Reg8) (v : Byte) : Reach s (t.setReg r v) := by
  cases r <;> exact h.cpu (.same rfl rfl rfl rfl)

theorem Reach.setF (h : Reach s t) (v : Byte) : Reach s (t.setF v) :=
  h.cpu ⟨fun _ => and_f0_and_0f _, fun _ => id, fun _ => id, rfl⟩

theorem Reach.setFlags (h : Reach s t) (f : Flags) : Reach s (t.setFlags f) := h.setF _

theorem Reach.setPc (h : Reach s t) (w : Word) : Reach s (t.setPc w) := h.cpu (.same rfl rfl rfl rfl)

theorem Reach.setSp (h : Reach s t) (w : Word) : Reach s (t.setSp w) := h.cpu (.same rfl rfl rfl rfl)

theorem Reach.setHalted (h : Reach s t) (v : Bool) : Reach s (t.setHalted v) := h.cpu (.same rfl rfl rfl rfl)

theorem Reach.setStopped (h : Reach s t) (v : Bool) : Reach s (t.setStopped v) := h.cpu (.same rfl rfl rfl rfl)

theorem Reach.scheduleEnable (h : Reach s t) : Reach s (t.scheduleEnable t.params.eiDelay) :=
  h.cpu ⟨id, fun hn _ m hm => by injection hm with hm; omega, fun _ => id, rfl⟩

theorem Reach.scheduleDisable (h : Reach s t) : Reach s (t.scheduleDisable t.params.diDelay) :=
  h.cpu ⟨id, fun _ => id, fun hn _ m hm => by injection hm with hm; omega, rfl⟩

theorem Reach.setHl (h : Reach s t) (w : Word) : Reach s (t.setHl w) := h.cpu (.same rfl rfl rfl rfl)

theorem Reach.setPair (h : Reach s t) (p : Pair) (w : Word) : Reach s (t.setPair p w) := by
  cases p <;> exact h.cpu (.same rfl rfl rfl rfl)

theorem Reach.setStackPair (h : Reach s t) (p : StackPair) (w : Word) : Reach s (t.setStackPair p w) := by
  cases p
  case af => exact h.cpu ⟨fun _ => and_f0_and_0f _, fun _ => id, fun _ => id, rfl⟩
  all_goals exact h.cpu (.same rfl rfl rfl rfl)

theorem Reach.push16 (h : Reach s t) (v : Word) : Reach s (t.push16 v) := ((h.setSp _).write _ _).write _ _

theorem Reach.pop16 (h : Reach s t) : Reach s t.pop16.2 := ((h.access _).access _).setSp _

theorem Reach.readPlace (h : Reach s t) (p : Place) : Reach s (t.readPlace p).2 := by
  cases p
  · exact h
  · exact h.access _

theorem Reach.readSource (h : Reach s t) (src : Source) : Reach s (t.readSource src).2 := by
  cases src
  · exact h
  · exact h.access _
  · exact h

theorem Reach.writePlace (h : Reach s t) (p : Place) (v : Byte) : Reach s (t.writePlace p v) := by
  cases p
  · exact h.setReg _ _
  · exact h.write _ _

/-! ## The shared operations of the meanings -/

@[simp] theorem reach_self (s : State) : Reach s s := .refl
@[simp] theorem reach_loadRegReg (dst src : Reg8) (s : State) : Reach s (loadRegReg dst src s) := Reach.refl.setReg _ _
@[simp] theorem reach_loadRegMem (dst : Reg8) (s : State) : Reach s (loadRegMem dst s) := (Reach.refl.access _).setReg _ _
@[simp] theorem reach_loadMemReg (r : Reg8) (s : State) : Reach s (loadMemReg r s) := Reach.refl.write _ _
@[simp] theorem reach_loadRegImm (dst : Reg8) (v : Byte) (s : State) : Reach s (loadRegImm dst v s) := Reach.refl.setReg _ _
@[simp] theorem reach_loadMemImm (v : Byte) (s : State) : Reach s (loadMemImm v s) := Reach.refl.write _ _
@[simp] theorem reach_loadAFrom (a : Word) (s : State) : Reach s (loadAFrom a s) :=
  ((Reach.refl (s := s)).access a).setReg .a (s.peek a)
@[simp] theorem reach_storeATo (a : Word) (s : State) : Reach s (storeATo a s) := Reach.refl.write _ _
@[simp] theorem reach_loadAStep (d : HlStep) (s : State) : Reach s (loadAStep d s) :=
  ((Reach.refl.access _).setReg _ _).setHl _
@[simp] theorem reach_storeAStep (d : HlStep) (s : State) : Reach s (storeAStep d s) := (Reach.refl.write _ _).setHl _
@[simp] theorem reach_loadPairImm (p : Pair) (w : Word) (s : State) : Reach s (loadPairImm p w s) := Reach.refl.setPair _ _
@[simp] theorem reach_storeSp (a : Word) (s : State) : Reach s (storeSp a s) := (Reach.refl.write _ _).write _ _
@[simp] theorem reach_loadSpHl (s : State) : Reach s (loadSpHl s) := Reach.refl.setSp _
@[simp] theorem reach_pushPair (p : StackPair) (s : State) : Reach s (pushPair p s) := Reach.refl.push16 _
@[simp] theorem reach_popPair (p : StackPair) (s : State) : Reach s (popPair p s) := Reach.refl.pop16.setStackPair _ _
@[simp] theorem reach_aluFrom (op : AluOp) (src : Source) (s : State) : Reach s (aluFrom op src s) :=
  ((Reach.refl.readSource _).setReg _ _).setFlags _
@[simp] theorem reach_incPlace (p : Place) (s : State) : Reach s (incPlace p s) :=
  ((Reach.refl.readPlace _).writePlace _ _).setFlags _
@[simp] theorem reach_decPlace (p : Place) (s : State) : Reach s (decPlace p s) :=
  ((Reach.refl.readPlace _).writePlace _ _).setFlags _
@[simp] theorem reach_decimalAdjust (s : State) : Reach s (decimalAdjust s) := (Reach.refl.setReg _ _).setFlags _
@[simp] theorem reach_complementA (s : State) : Reach s (complementA s) := (Reach.refl.setReg _ _).setFlags _
@[simp] theorem reach_setCarry (s : State) : Reach s (setCarry s) := Reach.refl.setFlags _
@[simp] theorem reach_complementCarry (s : State) : Reach s (complementCarry s) := Reach.refl.setFlags _
@[simp] theorem reach_incPair (p : Pair) (s : State) : Reach s (incPair p s) := Reach.refl.setPair _ _
@[simp] theorem reach_decPair (p : Pair) (s : State) : Reach s (decPair p s) := Reach.refl.setPair _ _
@[simp] theorem reach_addHlPair (p : Pair) (s : State) : Reach s (addHlPair p s) := (Reach.refl.setHl _).setFlags _
@[simp] theorem reach_addSp (e : Byte) (s : State) : Reach s (addSp e s) := (Reach.refl.setSp _).setFlags _
@[simp] theorem reach_loadHlSp (e : Byte) (s : State) : Reach s (loadHlSp e s) := (Reach.refl.setHl _).setFlags _
@[simp] theorem reach_rotateA (o : ShiftOp) (s : State) : Reach s (rotateA o s) := (Reach.refl.setReg _ _).setFlags _
@[simp] theorem reach_shiftPlace (o : ShiftOp) (p : Place) (s : State) : Reach s (shiftPlace o p s) :=
  ((Reach.refl.readPlace _).writePlace _ _).setFlags _
@[simp] theorem reach_testBit (n : Fin 8) (p : Place) (s : State) : Reach s (testBit n p s) :=
  (Reach.refl.readPlace _).setFlags _
@[simp] theorem reach_resetBit (n : Fin 8) (p : Place) (s : State) : Reach s (resetBit n p s) :=
  (Reach.refl.readPlace _).writePlace _ _
@[simp] theorem reach_setBit (n : Fin 8) (p : Place) (s : State) : Reach s (setBit n p s) :=
  (Reach.refl.readPlace _).writePlace _ _
@[simp] theorem reach_jumpTo (a : Word) (s : State) : Reach s (jumpTo a s) := Reach.refl.setPc _
@[simp] theorem reach_jumpRel (e : Byte) (s : State) : Reach s (jumpRel e s) := Reach.refl.setPc _
@[simp] theorem reach_callTo (a : Word) (s : State) : Reach s (callTo a s) := (Reach.refl.push16 _).setPc _
@[simp] theorem reach_returnTo (s : State) : Reach s (returnTo s) := Reach.refl.pop16.setPc _
@[simp] theorem reach_jumpIf (cc : Cond) (a : Word) (s : State) : Reach s (jumpIf cc a s) := by
  unfold jumpIf; split <;> simp
@[simp] theorem reach_jumpRelIf (cc : Cond) (e : Byte) (s : State) : Reach s (jumpRelIf cc e s) := by
  unfold jumpRelIf; split <;> simp
@[simp] theorem reach_callIf (cc : Cond) (a : Word) (s : State) : Reach s (callIf cc a s) := by
  unfold callIf; split <;> simp
@[simp] theorem reach_returnIf (cc : Cond) (s : State) : Reach s (returnIf cc s) := by
  unfold returnIf; split <;> simp
@[simp] theorem reach_enterHalt (s : State) : Reach s (enterHalt s) := Reach.refl.setHalted _
@[simp] theorem reach_enterStop (s : State) : Reach s (enterStop s) := Reach.refl.setStopped _
@[simp] theorem reach_scheduleEi (s : State) : Reach s (scheduleEi s) := Reach.refl.scheduleEnable
@[simp] theorem reach_scheduleDi (s : State) : Reach s (scheduleDi s) := Reach.refl.scheduleDisable
@[simp] theorem reach_undefinedOpcode (op : Byte) (s : State) : Reach s (undefinedOpcode op s) := Reach.refl.log _

/-! ## Every meaning -/

/-- A cost of opcode_table.json: a multiple of 4 from 4 to 24. -/
def IsCost (n : Nat) : Prop := n % 4 = 0 ∧ 4 ≤ n ∧ n ≤ 24

theorem isCost_takenCost (cc : Cond) (m n : Nat) (s : State) (hm : IsCost m) (hn : IsCost n) :
    IsCost (takenCost cc m n s) := by
  unfold takenCost
  split <;> assumption

theorem isCost_placeCost (p : Place) (m n : Nat) (hm : IsCost m) (hn : IsCost n) : IsCost (placeCost p m n) := by
  cases p <;> assumption

/-- What a meaning answers: a state reached by register updates and bus accesses, and a cost. -/
def Meant (s : State) (r : Result) : Prop := ∃ n u, r = finish n u ∧ Reach s u ∧ IsCost n

theorem Meant.intro {n : Nat} {u : State} (h : Reach s u) (hn : IsCost n) : Meant s (finish n u) := ⟨n, u, rfl, h, hn⟩

theorem meant_runCb (cb : Byte) (s : State) : Meant s (runCb cb s) := by
  unfold runCb
  simp only
  split <;> exact .intro (by simp) (isCost_placeCost _ _ _ (by simp [IsCost]) (by simp [IsCost]))

/-- RETI: the return, then IME set. -/
theorem exec_reti (s : State) : exec .reti s = finish 16 ((returnTo s).setIme true) := rfl

/-- Everything a meaning can do, RETI apart (see `exec_reti`). -/
theorem exec_meant (i : Instr) (s : State) (h : i ≠ .reti) : Meant s (exec i s) := by
  cases i
  case reti => exact absurd rfl h
  case prefixCb cb => exact meant_runCb cb s
  all_goals
    refine ⟨_, _, rfl, by simp, ?_⟩
    first
    | exact ⟨by decide, by decide, by decide⟩
    | exact isCost_takenCost _ _ _ _ ⟨by decide, by decide, by decide⟩ ⟨by decide, by decide, by decide⟩

end Sys2Proof.Machine
end

