-- ==== Sys2Proof/Laws/Devices.lean ====
section
/-! SUPPORT. What the device updates leave alone and keep: a frame for each update, and its components. -/

namespace Sys2Proof.Machine

/-! ## The PPU -/

/-- A transition changes the PPU and IF only. -/
theorem ppuTransition_frame (s : State) :
    s.ppuTransition = { s with ppu := s.ppuTransition.ppu, irq := s.ppuTransition.irq } := by
  unfold State.ppuTransition
  split
  · rfl
  · unfold State.renderLine
    simp only
    split <;> rfl
  · simp only
    split <;> rfl
  · rfl

theorem ppuRun_frame (s : State) (n : Nat) :
    s.ppuRun n = { s with ppu := (s.ppuRun n).ppu, irq := (s.ppuRun n).irq } := by
  induction n generalizing s with
  | zero => rfl
  | succ n ih =>
    unfold State.ppuRun
    split
    · rw [ih, ppuTransition_frame]
    · rfl

theorem ppuCompare_frame (s : State) :
    s.ppuCompare = { s with ppu := s.ppuCompare.ppu, irq := s.ppuCompare.irq } := by
  unfold State.ppuCompare
  simp only
  split <;> rfl

/-- The PPU's update changes the PPU and IF only. -/
theorem ppuUpdate_frame (s : State) (c : Nat) :
    s.ppuUpdate c = { s with ppu := (s.ppuUpdate c).ppu, irq := (s.ppuUpdate c).irq } := by
  unfold State.ppuUpdate
  rw [ppuRun_frame, ppuCompare_frame]

@[simp] theorem State.ppuUpdate_cpu (s : State) (c : Nat) : (s.ppuUpdate c).cpu = s.cpu := by
  rw [ppuUpdate_frame]

@[simp] theorem State.ppuUpdate_timer (s : State) (c : Nat) : (s.ppuUpdate c).timer = s.timer := by
  rw [ppuUpdate_frame]

@[simp] theorem State.ppuUpdate_dma (s : State) (c : Nat) : (s.ppuUpdate c).dma = s.dma := by
  rw [ppuUpdate_frame]

@[simp] theorem State.ppuUpdate_joypad (s : State) (c : Nat) : (s.ppuUpdate c).joypad = s.joypad := by
  rw [ppuUpdate_frame]

@[simp] theorem State.ppuUpdate_serial (s : State) (c : Nat) : (s.ppuUpdate c).serial = s.serial := by
  rw [ppuUpdate_frame]

@[simp] theorem State.ppuUpdate_cart (s : State) (c : Nat) : (s.ppuUpdate c).cart = s.cart := by
  rw [ppuUpdate_frame]

@[simp] theorem State.ppuUpdate_mem (s : State) (c : Nat) : (s.ppuUpdate c).mem = s.mem := by
  rw [ppuUpdate_frame]

@[simp] theorem State.ppuUpdate_diag (s : State) (c : Nat) : (s.ppuUpdate c).diag = s.diag := by
  rw [ppuUpdate_frame]

@[simp] theorem State.ppuUpdate_cycles (s : State) (c : Nat) : (s.ppuUpdate c).cycles = s.cycles := by
  rw [ppuUpdate_frame]

@[simp] theorem State.ppuUpdate_budget (s : State) (c : Nat) : (s.ppuUpdate c).budget = s.budget := by
  rw [ppuUpdate_frame]

@[simp] theorem State.ppuUpdate_params (s : State) (c : Nat) : (s.ppuUpdate c).params = s.params := by
  rw [ppuUpdate_frame]

/-! ## The timer -/

theorem timaTick_frame (s : State) : s.timaTick = { s with timer := s.timaTick.timer, irq := s.timaTick.irq } := by
  unfold State.timaTick
  split <;> rfl

theorem timaTicks_frame (s : State) (n : Nat) :
    s.timaTicks n = { s with timer := (s.timaTicks n).timer, irq := (s.timaTicks n).irq } := by
  induction n generalizing s with
  | zero => rfl
  | succ n ih =>
    unfold State.timaTicks
    rw [ih, timaTick_frame]

/-- The timer's update changes the timer and IF only. -/
theorem timerUpdate_frame (s : State) (c : Nat) :
    s.timerUpdate c = { s with timer := (s.timerUpdate c).timer, irq := (s.timerUpdate c).irq } := by
  unfold State.timerUpdate State.updateTima
  split
  · rw [timaTicks_frame]
  · rfl

@[simp] theorem State.timerUpdate_cpu (s : State) (c : Nat) : (s.timerUpdate c).cpu = s.cpu := by
  rw [timerUpdate_frame]

@[simp] theorem State.timerUpdate_ppu (s : State) (c : Nat) : (s.timerUpdate c).ppu = s.ppu := by
  rw [timerUpdate_frame]

@[simp] theorem State.timerUpdate_dma (s : State) (c : Nat) : (s.timerUpdate c).dma = s.dma := by
  rw [timerUpdate_frame]

@[simp] theorem State.timerUpdate_joypad (s : State) (c : Nat) : (s.timerUpdate c).joypad = s.joypad := by
  rw [timerUpdate_frame]

@[simp] theorem State.timerUpdate_serial (s : State) (c : Nat) : (s.timerUpdate c).serial = s.serial := by
  rw [timerUpdate_frame]

@[simp] theorem State.timerUpdate_cart (s : State) (c : Nat) : (s.timerUpdate c).cart = s.cart := by
  rw [timerUpdate_frame]

@[simp] theorem State.timerUpdate_mem (s : State) (c : Nat) : (s.timerUpdate c).mem = s.mem := by
  rw [timerUpdate_frame]

@[simp] theorem State.timerUpdate_diag (s : State) (c : Nat) : (s.timerUpdate c).diag = s.diag := by
  rw [timerUpdate_frame]

@[simp] theorem State.timerUpdate_cycles (s : State) (c : Nat) : (s.timerUpdate c).cycles = s.cycles := by
  rw [timerUpdate_frame]

@[simp] theorem State.timerUpdate_budget (s : State) (c : Nat) : (s.timerUpdate c).budget = s.budget := by
  rw [timerUpdate_frame]

@[simp] theorem State.timerUpdate_params (s : State) (c : Nat) : (s.timerUpdate c).params = s.params := by
  rw [timerUpdate_frame]

/-! ## The serial port -/

@[simp] theorem State.serialUpdate_eq (s : State) (c : Nat) : s.serialUpdate c = s := rfl

/-! ## OAM DMA -/

/-- The target that byte i of a copy writes. -/
theorem target_oam (i : Nat) (h : i < 160) : target (0xFE00 + BitVec.ofNat 16 i) = .oam i := by
  have e : ((0xFE00 : Word) + BitVec.ofNat 16 i).toNat = 0xFE00 + i := by
    rw [BitVec.toNat_add, BitVec.toNat_ofNat]
    simp
    omega
  rw [target_oam_of (by omega) (by omega), e, Nat.add_sub_cancel_left]

/-- One byte of a copy writes one cell of OAM and, with its read, may add to the log. -/
theorem dmaByte_eq (s : State) (i : Nat) (h : i < 160) : s.dmaByte i =
    (s.noteAccess (mkWord s.dma.source (BitVec.ofNat 8 i))).writeCell (oamCell i)
      (s.peek (mkWord s.dma.source (BitVec.ofNat 8 i))) := by
  have hc : (s.noteAccess (mkWord s.dma.source (BitVec.ofNat 8 i))).cellOf (0xFE00 + BitVec.ofNat 16 i) = some (oamCell i) := by
    unfold State.cellOf
    rw [target_oam i h]
    rfl
  have hn : accessDiag (0xFE00 + BitVec.ofNat 16 i) = none := by
    unfold accessDiag
    rw [target_oam i h]
  unfold State.dmaByte
  simp only [State.read8_snd, State.read8_fst]
  rw [write8_of_cellOf hc, State.noteAccess, hn]

/-- A copy is its bytes in order; a property that each byte keeps holds after the copy. -/
theorem dmaCopy_keeps {P : State → Prop} (s : State) (h : P s) (hk : ∀ t i, i < 160 → P t → P (t.dmaByte i)) :
    P s.dmaCopy := by
  unfold State.dmaCopy
  have key : ∀ l : List Nat, (∀ i ∈ l, i < 160) → ∀ t, P t → P (l.foldl State.dmaByte t) := by
    intro l
    induction l with
    | nil => exact fun _ t ht => ht
    | cons i l ih =>
      intro hl t ht
      exact ih (fun j hj => hl j (List.mem_cons_of_mem _ hj)) _ (hk t i (hl i (by simp)) ht)
  exact key _ (fun i hi => List.mem_range.mp hi) s h

/-- A copy changes byte storage and the log only. -/
theorem dmaCopy_frame (s : State) : s.dmaCopy = { s with mem := s.dmaCopy.mem, diag := s.dmaCopy.diag } := by
  have h : ∃ m d, s.dmaCopy = { s with mem := m, diag := d } := by
    refine dmaCopy_keeps (P := fun t => ∃ m d, t = { s with mem := m, diag := d }) s ⟨s.mem, s.diag, rfl⟩ ?_
    rintro t i hi ⟨m, d, rfl⟩
    rw [dmaByte_eq _ i hi, State.noteAccess]
    split <;> exact ⟨_, _, rfl⟩
  obtain ⟨m, d, h⟩ := h
  rw [h]

/-- A copy keeps byte storage canonical. -/
theorem dmaCopy_mem_wf (s : State) (h : Memory.wf s.mem) : Memory.wf s.dmaCopy.mem :=
  dmaCopy_keeps (P := fun t => Memory.wf t.mem) s h fun t i hi ht => by
    rw [dmaByte_eq t i hi]
    simpa using Memory.write_wf ht _ _

/-- The DMA's update changes the DMA registers, byte storage and the log only. -/
theorem dmaUpdate_frame (s : State) (c : Nat) :
    s.dmaUpdate c = { s with dma := (s.dmaUpdate c).dma, mem := (s.dmaUpdate c).mem, diag := (s.dmaUpdate c).diag } := by
  unfold State.dmaUpdate
  simp only
  split
  · split
    · rw [dmaCopy_frame]
    · rfl
  · rfl

@[simp] theorem State.dmaUpdate_cpu (s : State) (c : Nat) : (s.dmaUpdate c).cpu = s.cpu := by
  rw [dmaUpdate_frame]

@[simp] theorem State.dmaUpdate_irq (s : State) (c : Nat) : (s.dmaUpdate c).irq = s.irq := by
  rw [dmaUpdate_frame]

@[simp] theorem State.dmaUpdate_timer (s : State) (c : Nat) : (s.dmaUpdate c).timer = s.timer := by
  rw [dmaUpdate_frame]

@[simp] theorem State.dmaUpdate_ppu (s : State) (c : Nat) : (s.dmaUpdate c).ppu = s.ppu := by
  rw [dmaUpdate_frame]

@[simp] theorem State.dmaUpdate_joypad (s : State) (c : Nat) : (s.dmaUpdate c).joypad = s.joypad := by
  rw [dmaUpdate_frame]

@[simp] theorem State.dmaUpdate_serial (s : State) (c : Nat) : (s.dmaUpdate c).serial = s.serial := by
  rw [dmaUpdate_frame]

@[simp] theorem State.dmaUpdate_cart (s : State) (c : Nat) : (s.dmaUpdate c).cart = s.cart := by
  rw [dmaUpdate_frame]

@[simp] theorem State.dmaUpdate_cycles (s : State) (c : Nat) : (s.dmaUpdate c).cycles = s.cycles := by
  rw [dmaUpdate_frame]

@[simp] theorem State.dmaUpdate_budget (s : State) (c : Nat) : (s.dmaUpdate c).budget = s.budget := by
  rw [dmaUpdate_frame]

@[simp] theorem State.dmaUpdate_params (s : State) (c : Nat) : (s.dmaUpdate c).params = s.params := by
  rw [dmaUpdate_frame]

/-! ## All devices -/

@[simp] theorem State.deviceUpdate_cpu (s : State) (c : Nat) : (s.deviceUpdate c).cpu = s.cpu := by
  unfold State.deviceUpdate; simp

@[simp] theorem State.deviceUpdate_joypad (s : State) (c : Nat) : (s.deviceUpdate c).joypad = s.joypad := by
  unfold State.deviceUpdate; simp

@[simp] theorem State.deviceUpdate_serial (s : State) (c : Nat) : (s.deviceUpdate c).serial = s.serial := by
  unfold State.deviceUpdate; simp

@[simp] theorem State.deviceUpdate_cart (s : State) (c : Nat) : (s.deviceUpdate c).cart = s.cart := by
  unfold State.deviceUpdate; simp

@[simp] theorem State.deviceUpdate_cycles (s : State) (c : Nat) : (s.deviceUpdate c).cycles = s.cycles := by
  unfold State.deviceUpdate; simp

@[simp] theorem State.deviceUpdate_budget (s : State) (c : Nat) : (s.deviceUpdate c).budget = s.budget := by
  unfold State.deviceUpdate; simp

@[simp] theorem State.deviceUpdate_params (s : State) (c : Nat) : (s.deviceUpdate c).params = s.params := by
  unfold State.deviceUpdate; simp

/-- The branch of a step, said as five cases (40_step_engine.md R140). -/
theorem stepBranch_cases (s : State) (run : Instr → State → Result) :
    (s.cpu.stopped = true ∧ s.stepBranch run = .next s.stoppedStep) ∨
    (s.cpu.stopped = false ∧ s.cpu.ime = true ∧ ∃ i, s.nextTriggered = some i ∧ s.stepBranch run = .next (s.service i)) ∨
    (s.cpu.stopped = false ∧ s.cpu.ime = false ∧ s.cpu.halted = true ∧ s.nextTriggered ≠ none ∧
      s.stepBranch run = .next s.haltWake) ∨
    (s.cpu.stopped = false ∧ s.cpu.halted = true ∧ s.nextTriggered = none ∧ s.stepBranch run = .next s.haltedIdle) ∨
    (s.Runs ∧ s.stepBranch run = s.executeInstruction run) := by
  unfold State.stepBranch State.Runs
  cases hs : s.cpu.stopped <;> cases hn : s.nextTriggered <;> cases hi : s.cpu.ime <;> cases hh : s.cpu.halted <;> simp

end Sys2Proof.Machine
end

