-- ==== Sys2Proof/Laws/Operations.lean ====
section
/-! SUPPORT. For each shared operation of the meanings, one lemma that says everything it does: its result, its flags and
its frame, in the state it leaves once the step's cost is set. -/

namespace Sys2Proof.Machine

/-! ## Operands -/

theorem readSource_fst (s : State) (src : Source) : (s.readSource src).1 = src.value s := by cases src <;> rfl

theorem readPlace_fst (s : State) (p : Place) : (s.readPlace p).1 = p.value s := by cases p <;> rfl

/-- A byte with bits 7..4 kept has bits 3..0 zero, whatever flags made it. -/
theorem toByte_f0_low (f : Flags) : f.toByte &&& 0xF0 &&& 0x0F = 0 := and_f0_and_0f _

/-! ## Loads and stores -/

theorem loadRegReg_spec (dst src : Reg8) (s : State) (n : Nat) :
    let t := (loadRegReg dst src s).setCycles n
    t.getReg dst = s.getReg src ∧ SameFPcSp s t ∧ ReadFrame s t [dst] [] := by
  refine ⟨?_, ?_, ?_⟩
  · simp [loadRegReg, State.setReg_getReg]
  · simp [loadRegReg, SameFPcSp]
  · simp +contextual [ReadFrame, SameRegs, SameControl, SameDevices, SameBytes, Logged, loadRegReg, State.setReg_getReg]

theorem loadRegMem_spec (dst : Reg8) (s : State) (n : Nat) :
    let t := (loadRegMem dst s).setCycles n
    t.getReg dst = s.peek s.hl ∧ SameFPcSp s t ∧ ReadFrame s t [dst] [s.hl] := by
  refine ⟨?_, ?_, ?_⟩
  · simp [loadRegMem, State.setReg_getReg]
  · simp [loadRegMem, SameFPcSp]
  · simp +contextual [ReadFrame, SameRegs, SameControl, SameDevices, SameBytes, Logged, loadRegMem,
      State.setReg_getReg, State.noteAccess_diag, events_one]

theorem loadRegImm_spec (dst : Reg8) (v : Byte) (s : State) (n : Nat) :
    let t := (loadRegImm dst v s).setCycles n
    t.getReg dst = v ∧ SameFPcSp s t ∧ ReadFrame s t [dst] [] := by
  refine ⟨?_, ?_, ?_⟩
  · simp [loadRegImm, State.setReg_getReg]
  · simp [loadRegImm, SameFPcSp]
  · simp +contextual [ReadFrame, SameRegs, SameControl, SameDevices, SameBytes, Logged, loadRegImm, State.setReg_getReg]

/-- One bus write and nothing else. -/
theorem write8_spec (s : State) (a : Word) (v : Byte) (n : Nat) :
    let t := (s.write8 a v).setCycles n
    StoresByte s t [] a v ∧ SameFPcSp s t ∧ SameRegs s t [] ∧ SameControl s t := by
  refine ⟨storesByte_of ?_ ?_, ?_, ?_, ?_⟩
  · simp [SameDevices]
  · simp [Logged, State.write8_diag, events_one]
  · simp [SameFPcSp]
  · simp [SameRegs]
  · simp [SameControl]

theorem loadAFrom_spec (a : Word) (s : State) (n : Nat) :
    let t := (loadAFrom a s).setCycles n
    t.cpu.a = s.peek a ∧ t.hl = s.hl ∧ SameFPcSp s t ∧ ReadFrame s t [.a] [a] := by
  refine ⟨?_, ?_, ?_, ?_⟩
  · simp [loadAFrom]
  · simp [loadAFrom, State.setReg, State.hl]
  · simp [loadAFrom, SameFPcSp]
  · simp +contextual [ReadFrame, SameRegs, SameControl, SameDevices, SameBytes, Logged, loadAFrom, State.setReg_getReg,
      State.noteAccess_diag, events_one]

theorem loadAStep_spec (d : HlStep) (s : State) (n : Nat) :
    let t := (loadAStep d s).setCycles n
    t.cpu.a = s.peek s.hl ∧ t.hl = d.apply s.hl ∧ SameFPcSp s t ∧ ReadFrame s t [.a, .h, .l] [s.hl] := by
  refine ⟨?_, ?_, ?_, ?_⟩
  · simp [loadAStep]
  · simp [loadAStep]
  · simp [loadAStep, SameFPcSp]
  · simp +contextual [ReadFrame, SameRegs, SameControl, SameDevices, SameBytes, Logged, loadAStep, State.setReg_getReg,
      State.noteAccess_diag, events_one, State.setHl_getReg]

theorem storeAStep_spec (d : HlStep) (s : State) (n : Nat) :
    let t := (storeAStep d s).setCycles n
    StoresByte s t [] s.hl s.cpu.a ∧ t.hl = d.apply s.hl ∧ SameFPcSp s t ∧ SameRegs s t [.h, .l] ∧ SameControl s t := by
  refine ⟨storesByte_of ?_ ?_, ?_, ?_, ?_, ?_⟩
  · simp [SameDevices, storeAStep]
  · simp [Logged, storeAStep, State.write8_diag, events_one]
  · simp [storeAStep]
  · simp [storeAStep, SameFPcSp]
  · simp +contextual [storeAStep, SameRegs, State.setHl_getReg]
  · simp [storeAStep, SameControl]

/-- A pair is written and nothing else: `LD rr,d16`, `INC rr`, `DEC rr`. -/
theorem setPair_spec (p : Pair) (w : Word) (s : State) (n : Nat) :
    let t := (s.setPair p w).setCycles n
    t.getPair p = w ∧ t.cpu.f = s.cpu.f ∧ t.cpu.pc = s.cpu.pc ∧ (p ≠ .sp → t.cpu.sp = s.cpu.sp) ∧
      ReadFrame s t p.regs [] := by
  refine ⟨?_, ?_, ?_, ?_, ?_⟩
  · simp
  · simp
  · simp
  · simp +contextual [State.setPair_cpu_sp]
  · simp +contextual [ReadFrame, SameRegs, SameControl, SameDevices, SameBytes, Logged, State.setPair_getReg]

theorem storeSp_spec (w : Word) (s : State) (n : Nat) :
    let t := (storeSp w s).setCycles n
    StoresWord s t w s.cpu.sp ∧ SameFPcSp s t ∧ SameRegs s t [] ∧ SameControl s t := by
  refine ⟨storesWord_of ?_ ?_, ?_, ?_, ?_⟩
  · simp [SameDevices, storeSp, State.write16]
  · simp [Logged, storeSp, State.write16, State.write8_diag, events_cons]
  · simp [storeSp, SameFPcSp, State.write16]
  · simp [storeSp, SameRegs, State.write16]
  · simp [storeSp, SameControl, State.write16]

/-! ## The stack -/

/-- A push: SP - 2, v stored there, every other register as before. -/
theorem push16_spec (s : State) (v : Word) (n : Nat) :
    let t := (s.push16 v).setCycles n
    t.cpu.sp = s.cpu.sp - 2 ∧ StoresWord s t (s.cpu.sp - 2) v ∧ t.cpu.f = s.cpu.f ∧ t.cpu.pc = s.cpu.pc ∧
      SameRegs s t [] ∧ SameControl s t := by
  have h := push16_storesWord s v
  refine ⟨?_, storesWord_of (h.1.trans (by simp [SameDevices])) h.2.1, ?_, ?_, ?_, ?_⟩
  · simp [State.push16_cpu]
  · simp [State.push16_cpu]
  · simp [State.push16_cpu]
  · simp [SameRegs]
  · simp [SameControl, State.push16_cpu]

/-- The state after a pop: SP + 2 and the log, nothing else. -/
theorem pop16_spec (s : State) (n : Nat) :
    let t := s.pop16.2.setCycles n
    t.cpu.sp = s.cpu.sp + 2 ∧ t.cpu.f = s.cpu.f ∧ t.cpu.pc = s.cpu.pc ∧ ReadFrame s t [] [s.cpu.sp, s.cpu.sp + 1] := by
  refine ⟨?_, ?_, ?_, ?_⟩
  · simp [State.pop16_snd]
  · simp [State.pop16_snd]
  · simp [State.pop16_snd]
  · simp [ReadFrame, SameRegs, SameControl, SameDevices, SameBytes, Logged, State.pop16_snd, State.noteAccess_diag,
      events_cons]

theorem popPair_spec (q : StackPair) (s : State) (n : Nat) :
    let t := (popPair q s).setCycles n
    t.cpu.sp = s.cpu.sp + 2 ∧ t.cpu.pc = s.cpu.pc ∧
      (q ≠ .af → t.getStackPair q = mkWord (s.peek (s.cpu.sp + 1)) (s.peek s.cpu.sp) ∧ t.cpu.f = s.cpu.f) ∧
      (q = .af → t.cpu.a = s.peek (s.cpu.sp + 1) ∧ t.cpu.f = s.peek s.cpu.sp &&& 0xF0) ∧
      ReadFrame s t q.regs [s.cpu.sp, s.cpu.sp + 1] := by
  refine ⟨?_, ?_, ?_, ?_, ?_⟩
  · simp [popPair, State.pop16_snd]
  · simp [popPair, State.pop16_snd]
  · intro h
    cases q <;> simp [popPair, State.setStackPair, State.getStackPair, State.pop16_fst, State.bc, State.de, State.hl,
      State.pop16_snd] at h ⊢
  · rintro rfl
    simp [popPair, State.setStackPair, State.pop16_fst]
  · simp +contextual [ReadFrame, SameRegs, SameControl, SameDevices, SameBytes, Logged, popPair,
      State.setStackPair_getReg, State.pop16_snd, State.noteAccess_diag, events_cons]

/-! ## Arithmetic on A -/

theorem aluFrom_spec (op : AluOp) (src : Source) (s : State) (n : Nat) :
    let t := (aluFrom op src s).setCycles n
    t.cpu.a = (alu op s.cpu.a (src.value s) s.flags.c).1 ∧ t.flags = (alu op s.cpu.a (src.value s) s.flags.c).2 ∧
      t.cpu.f &&& 0x0F = 0 ∧ t.cpu.pc = s.cpu.pc ∧ t.cpu.sp = s.cpu.sp ∧ ReadFrame s t [.a] (src.reads s) := by
  refine ⟨?_, ?_, toByte_f0_low _, ?_, ?_, ?_⟩
  all_goals cases src <;> simp +contextual [aluFrom, State.readSource, Source.value, Source.reads, ReadFrame, SameRegs,
    SameControl, SameDevices, SameBytes, Logged, State.noteAccess_diag, events_one, State.setReg_getReg]

/-- A is written, then the flags, and nothing else: DAA, CPL and the accumulator rotates. -/
theorem setA_setFlags_spec (v : Byte) (f : Flags) (s : State) (n : Nat) :
    let t := ((s.setReg .a v).setFlags f).setCycles n
    t.cpu.a = v ∧ t.flags = f ∧ t.cpu.f &&& 0x0F = 0 ∧ t.cpu.pc = s.cpu.pc ∧ t.cpu.sp = s.cpu.sp ∧
      ReadFrame s t [.a] [] := by
  refine ⟨?_, ?_, toByte_f0_low _, ?_, ?_, ?_⟩
  all_goals simp +contextual [ReadFrame, SameRegs, SameControl, SameDevices, SameBytes, Logged, State.setReg_getReg]

/-- The flags are written and nothing else: SCF and CCF. -/
theorem setFlags_spec (f : Flags) (s : State) (n : Nat) :
    let t := (s.setFlags f).setCycles n
    t.flags = f ∧ t.cpu.f &&& 0x0F = 0 ∧ t.cpu.pc = s.cpu.pc ∧ t.cpu.sp = s.cpu.sp ∧ ReadFrame s t [] [] := by
  refine ⟨?_, toByte_f0_low _, ?_, ?_, ?_⟩
  all_goals simp [ReadFrame, SameRegs, SameControl, SameDevices, SameBytes, Logged]

/-- HL is written, then the flags, and nothing else: `ADD HL,rr` and `LD HL,SP+e8`. -/
theorem setHl_setFlags_spec (w : Word) (f : Flags) (s : State) (n : Nat) :
    let t := ((s.setHl w).setFlags f).setCycles n
    t.hl = w ∧ t.flags = f ∧ t.cpu.f &&& 0x0F = 0 ∧ t.cpu.pc = s.cpu.pc ∧ t.cpu.sp = s.cpu.sp ∧
      ReadFrame s t [.h, .l] [] := by
  refine ⟨?_, ?_, toByte_f0_low _, ?_, ?_, ?_⟩
  all_goals simp +contextual [ReadFrame, SameRegs, SameControl, SameDevices, SameBytes, Logged, State.setHl_getReg]

/-! ## Read-modify-write -/

/-- A read of an operand, then a write of it: RES and SET. -/
theorem writePlace_spec (s : State) (p : Place) (v : Byte) (n : Nat) :
    let t := ((s.readPlace p).2.writePlace p v).setCycles n
    WritesPlace s t p v ∧ SameFPcSp s t := by
  cases p with
  | reg r =>
    refine ⟨⟨?_, ?_⟩, ?_⟩
    · simp [State.writePlace, State.readPlace, State.setReg_getReg]
    · simp +contextual [State.writePlace, State.readPlace, ReadFrame, SameRegs, SameControl, SameDevices, SameBytes,
        Logged, State.setReg_getReg]
    · simp [State.writePlace, State.readPlace, SameFPcSp]
  | memHL =>
    refine ⟨⟨storesByte_of ?_ ?_, ?_⟩, ?_⟩
    · refine SameDevices.trans (write8_sameDevices (sameDevices_noteAccess s s.hl) s.hl v) ?_
      simp [SameDevices, State.writePlace, State.readPlace]
    · simp [Logged, State.writePlace, State.readPlace, State.write8_diag, State.noteAccess_diag, events_cons]
    all_goals simp [State.writePlace, State.readPlace, SameRegs, SameControl, SameFPcSp]

/-- The same with the flags written after: INC, DEC and the CB rotates and shifts. -/
theorem writePlace_setFlags_spec (s : State) (p : Place) (v : Byte) (f : Flags) (n : Nat) :
    let t := (((s.readPlace p).2.writePlace p v).setFlags f).setCycles n
    WritesPlace s t p v ∧ t.flags = f ∧ t.cpu.f &&& 0x0F = 0 ∧ t.cpu.pc = s.cpu.pc ∧ t.cpu.sp = s.cpu.sp := by
  cases p with
  | reg r =>
    refine ⟨⟨?_, ?_⟩, ?_, toByte_f0_low _, ?_, ?_⟩
    · simp [State.writePlace, State.readPlace, State.setReg_getReg]
    · simp +contextual [State.writePlace, State.readPlace, ReadFrame, SameRegs, SameControl, SameDevices, SameBytes,
        Logged, State.setReg_getReg]
    all_goals simp [State.writePlace, State.readPlace]
  | memHL =>
    refine ⟨⟨storesByte_of ?_ ?_, ?_⟩, ?_, toByte_f0_low _, ?_, ?_⟩
    · refine SameDevices.trans (write8_sameDevices (sameDevices_noteAccess s s.hl) s.hl v) ?_
      simp [SameDevices, State.writePlace, State.readPlace]
    · simp [Logged, State.writePlace, State.readPlace, State.write8_diag, State.noteAccess_diag, events_cons]
    all_goals simp [State.writePlace, State.readPlace, SameRegs, SameControl]

theorem incPlace_eq (p : Place) (s : State) : incPlace p s =
    ((s.readPlace p).2.writePlace p (inc8 (p.value s) s.flags).1).setFlags (inc8 (p.value s) s.flags).2 := by
  rw [← readPlace_fst]
  rfl

theorem decPlace_eq (p : Place) (s : State) : decPlace p s =
    ((s.readPlace p).2.writePlace p (dec8 (p.value s) s.flags).1).setFlags (dec8 (p.value s) s.flags).2 := by
  rw [← readPlace_fst]
  rfl

theorem shiftPlace_eq (o : ShiftOp) (p : Place) (s : State) : shiftPlace o p s =
    ((s.readPlace p).2.writePlace p (shift o (p.value s) s.flags.c).1).setFlags
      (shiftFlags (shift o (p.value s) s.flags.c)) := by
  rw [← readPlace_fst]
  rfl

theorem resetBit_eq (k : Fin 8) (p : Place) (s : State) : resetBit k p s =
    (s.readPlace p).2.writePlace p (p.value s &&& ~~~bitMask k) := by
  rw [← readPlace_fst]
  rfl

theorem setBit_eq (k : Fin 8) (p : Place) (s : State) : setBit k p s =
    (s.readPlace p).2.writePlace p (p.value s ||| bitMask k) := by
  rw [← readPlace_fst]
  rfl

/-- `1 << b` (R302). -/
theorem bitMask_eq (k : Fin 8) : bitMask k = (1 : Byte) <<< k.val := by
  revert k
  decide

theorem testBit_spec (k : Fin 8) (p : Place) (s : State) (n : Nat) :
    let t := (testBit k p s).setCycles n
    t.flags = bitFlags (p.value s) k s.flags ∧ t.cpu.f &&& 0x0F = 0 ∧ t.cpu.pc = s.cpu.pc ∧ t.cpu.sp = s.cpu.sp ∧
      ReadFrame s t [] (p.reads s) := by
  refine ⟨?_, toByte_f0_low _, ?_, ?_, ?_⟩
  all_goals cases p <;> simp [testBit, State.readPlace, Place.value, Place.reads, ReadFrame, SameRegs, SameControl,
    SameDevices, SameBytes, Logged, State.noteAccess_diag, events_one]

/-! ## Transfers of control -/

theorem setPc_spec (w : Word) (s : State) (n : Nat) :
    let t := (s.setPc w).setCycles n
    t.cpu.pc = w ∧ t.cpu.f = s.cpu.f ∧ t.cpu.sp = s.cpu.sp ∧ ReadFrame s t [] [] := by
  simp [ReadFrame, SameRegs, SameControl, SameDevices, SameBytes, Logged]

theorem callTo_spec (w : Word) (s : State) (n : Nat) :
    let t := (callTo w s).setCycles n
    t.cpu.pc = w ∧ t.cpu.sp = s.cpu.sp - 2 ∧ StoresWord s t (s.cpu.sp - 2) s.cpu.pc ∧ t.cpu.f = s.cpu.f ∧
      SameRegs s t [] ∧ SameControl s t := by
  have h := push16_storesWord s s.cpu.pc
  refine ⟨?_, ?_, storesWord_of (h.1.trans (by simp [SameDevices, callTo])) h.2.1, ?_, ?_, ?_⟩
  · simp [callTo]
  · simp [callTo, State.push16_cpu]
  · simp [callTo, State.push16_cpu]
  · simp [callTo, SameRegs]
  · simp [callTo, SameControl, State.push16_cpu]

theorem returnTo_spec (s : State) (n : Nat) :
    let t := (returnTo s).setCycles n
    t.cpu.pc = mkWord (s.peek (s.cpu.sp + 1)) (s.peek s.cpu.sp) ∧ t.cpu.sp = s.cpu.sp + 2 ∧ t.cpu.f = s.cpu.f ∧
      ReadFrame s t [] [s.cpu.sp, s.cpu.sp + 1] := by
  refine ⟨?_, ?_, ?_, ?_⟩
  · simp [returnTo, State.pop16_fst]
  · simp [returnTo, State.pop16_snd]
  · simp [returnTo, State.pop16_snd]
  · simp [ReadFrame, SameRegs, SameControl, SameDevices, SameBytes, Logged, returnTo, State.pop16_snd,
      State.noteAccess_diag, events_cons]

end Sys2Proof.Machine
end

