-- ==== Sys2Proof/Laws/PerInstr.lean ====
section
/-! SUPPORT. A fact about every instruction as syntax, one lemma per constructor: its bytes are as many as its first byte
says (30_encoding.md R110). -/

namespace Sys2Proof.Laws.FirstByteLength

/-- The length of an instruction is a function of its first byte (R110). -/
def Statement (i : Instr) : Prop := (encode i).length = instrLength i.opcode

theorem of_opcode {i : Instr} (op : Byte) (h : i.opcode = op) (g : (encode i).length = instrLength op) : Statement i := by
  unfold Statement
  rw [h, g]

theorem ldBC_d16 (d16 : Word) : Statement (.ldBC_d16 d16) := of_opcode 0x01 rfl rfl
theorem ldB_d8 (d8 : Byte) : Statement (.ldB_d8 d8) := of_opcode 0x06 rfl rfl
theorem ldMemA16_SP (a16 : Word) : Statement (.ldMemA16_SP a16) := of_opcode 0x08 rfl rfl
theorem ldC_d8 (d8 : Byte) : Statement (.ldC_d8 d8) := of_opcode 0x0E rfl rfl
theorem stop (ignored : Byte) : Statement (.stop ignored) := of_opcode 0x10 rfl rfl
theorem ldDE_d16 (d16 : Word) : Statement (.ldDE_d16 d16) := of_opcode 0x11 rfl rfl
theorem ldD_d8 (d8 : Byte) : Statement (.ldD_d8 d8) := of_opcode 0x16 rfl rfl
theorem jrE8 (e8 : Byte) : Statement (.jrE8 e8) := of_opcode 0x18 rfl rfl
theorem ldE_d8 (d8 : Byte) : Statement (.ldE_d8 d8) := of_opcode 0x1E rfl rfl
theorem jrNZ_e8 (e8 : Byte) : Statement (.jrNZ_e8 e8) := of_opcode 0x20 rfl rfl
theorem ldHL_d16 (d16 : Word) : Statement (.ldHL_d16 d16) := of_opcode 0x21 rfl rfl
theorem ldH_d8 (d8 : Byte) : Statement (.ldH_d8 d8) := of_opcode 0x26 rfl rfl
theorem jrZ_e8 (e8 : Byte) : Statement (.jrZ_e8 e8) := of_opcode 0x28 rfl rfl
theorem ldL_d8 (d8 : Byte) : Statement (.ldL_d8 d8) := of_opcode 0x2E rfl rfl
theorem jrNC_e8 (e8 : Byte) : Statement (.jrNC_e8 e8) := of_opcode 0x30 rfl rfl
theorem ldSP_d16 (d16 : Word) : Statement (.ldSP_d16 d16) := of_opcode 0x31 rfl rfl
theorem ldMemHL_d8 (d8 : Byte) : Statement (.ldMemHL_d8 d8) := of_opcode 0x36 rfl rfl
theorem jrC_e8 (e8 : Byte) : Statement (.jrC_e8 e8) := of_opcode 0x38 rfl rfl
theorem ldA_d8 (d8 : Byte) : Statement (.ldA_d8 d8) := of_opcode 0x3E rfl rfl
theorem jpNZ_a16 (a16 : Word) : Statement (.jpNZ_a16 a16) := of_opcode 0xC2 rfl rfl
theorem jpA16 (a16 : Word) : Statement (.jpA16 a16) := of_opcode 0xC3 rfl rfl
theorem callNZ_a16 (a16 : Word) : Statement (.callNZ_a16 a16) := of_opcode 0xC4 rfl rfl
theorem addA_d8 (d8 : Byte) : Statement (.addA_d8 d8) := of_opcode 0xC6 rfl rfl
theorem jpZ_a16 (a16 : Word) : Statement (.jpZ_a16 a16) := of_opcode 0xCA rfl rfl
theorem prefixCb (cb : Byte) : Statement (.prefixCb cb) := of_opcode 0xCB rfl rfl
theorem callZ_a16 (a16 : Word) : Statement (.callZ_a16 a16) := of_opcode 0xCC rfl rfl
theorem callA16 (a16 : Word) : Statement (.callA16 a16) := of_opcode 0xCD rfl rfl
theorem adcA_d8 (d8 : Byte) : Statement (.adcA_d8 d8) := of_opcode 0xCE rfl rfl
theorem jpNC_a16 (a16 : Word) : Statement (.jpNC_a16 a16) := of_opcode 0xD2 rfl rfl
theorem callNC_a16 (a16 : Word) : Statement (.callNC_a16 a16) := of_opcode 0xD4 rfl rfl
theorem subD8 (d8 : Byte) : Statement (.subD8 d8) := of_opcode 0xD6 rfl rfl
theorem jpC_a16 (a16 : Word) : Statement (.jpC_a16 a16) := of_opcode 0xDA rfl rfl
theorem callC_a16 (a16 : Word) : Statement (.callC_a16 a16) := of_opcode 0xDC rfl rfl
theorem sbcA_d8 (d8 : Byte) : Statement (.sbcA_d8 d8) := of_opcode 0xDE rfl rfl
theorem ldhMemA8_A (a8 : Byte) : Statement (.ldhMemA8_A a8) := of_opcode 0xE0 rfl rfl
theorem andD8 (d8 : Byte) : Statement (.andD8 d8) := of_opcode 0xE6 rfl rfl
theorem addSP_e8 (e8 : Byte) : Statement (.addSP_e8 e8) := of_opcode 0xE8 rfl rfl
theorem ldMemA16_A (a16 : Word) : Statement (.ldMemA16_A a16) := of_opcode 0xEA rfl rfl
theorem xorD8 (d8 : Byte) : Statement (.xorD8 d8) := of_opcode 0xEE rfl rfl
theorem ldhA_MemA8 (a8 : Byte) : Statement (.ldhA_MemA8 a8) := of_opcode 0xF0 rfl rfl
theorem orD8 (d8 : Byte) : Statement (.orD8 d8) := of_opcode 0xF6 rfl rfl
theorem ldHL_SPe8 (e8 : Byte) : Statement (.ldHL_SPe8 e8) := of_opcode 0xF8 rfl rfl
theorem ldA_MemA16 (a16 : Word) : Statement (.ldA_MemA16 a16) := of_opcode 0xFA rfl rfl
theorem cpD8 (d8 : Byte) : Statement (.cpD8 d8) := of_opcode 0xFE rfl rfl
theorem nop : Statement .nop := of_opcode 0x00 rfl rfl
theorem ldMemBC_A : Statement .ldMemBC_A := of_opcode 0x02 rfl rfl
theorem incBC : Statement .incBC := of_opcode 0x03 rfl rfl
theorem incB : Statement .incB := of_opcode 0x04 rfl rfl
theorem decB : Statement .decB := of_opcode 0x05 rfl rfl
theorem rlca : Statement .rlca := of_opcode 0x07 rfl rfl
theorem addHL_BC : Statement .addHL_BC := of_opcode 0x09 rfl rfl
theorem ldA_MemBC : Statement .ldA_MemBC := of_opcode 0x0A rfl rfl
theorem decBC : Statement .decBC := of_opcode 0x0B rfl rfl
theorem incC : Statement .incC := of_opcode 0x0C rfl rfl
theorem decC : Statement .decC := of_opcode 0x0D rfl rfl
theorem rrca : Statement .rrca := of_opcode 0x0F rfl rfl
theorem ldMemDE_A : Statement .ldMemDE_A := of_opcode 0x12 rfl rfl
theorem incDE : Statement .incDE := of_opcode 0x13 rfl rfl
theorem incD : Statement .incD := of_opcode 0x14 rfl rfl
theorem decD : Statement .decD := of_opcode 0x15 rfl rfl
theorem rla : Statement .rla := of_opcode 0x17 rfl rfl
theorem addHL_DE : Statement .addHL_DE := of_opcode 0x19 rfl rfl
theorem ldA_MemDE : Statement .ldA_MemDE := of_opcode 0x1A rfl rfl
theorem decDE : Statement .decDE := of_opcode 0x1B rfl rfl
theorem incE : Statement .incE := of_opcode 0x1C rfl rfl
theorem decE : Statement .decE := of_opcode 0x1D rfl rfl
theorem rra : Statement .rra := of_opcode 0x1F rfl rfl
theorem ldMemHLI_A : Statement .ldMemHLI_A := of_opcode 0x22 rfl rfl
theorem incHL : Statement .incHL := of_opcode 0x23 rfl rfl
theorem incH : Statement .incH := of_opcode 0x24 rfl rfl
theorem decH : Statement .decH := of_opcode 0x25 rfl rfl
theorem daa : Statement .daa := of_opcode 0x27 rfl rfl
theorem addHL_HL : Statement .addHL_HL := of_opcode 0x29 rfl rfl
theorem ldA_MemHLI : Statement .ldA_MemHLI := of_opcode 0x2A rfl rfl
theorem decHL : Statement .decHL := of_opcode 0x2B rfl rfl
theorem incL : Statement .incL := of_opcode 0x2C rfl rfl
theorem decL : Statement .decL := of_opcode 0x2D rfl rfl
theorem cpl : Statement .cpl := of_opcode 0x2F rfl rfl
theorem ldMemHLD_A : Statement .ldMemHLD_A := of_opcode 0x32 rfl rfl
theorem incSP : Statement .incSP := of_opcode 0x33 rfl rfl
theorem incMemHL : Statement .incMemHL := of_opcode 0x34 rfl rfl
theorem decMemHL : Statement .decMemHL := of_opcode 0x35 rfl rfl
theorem scf : Statement .scf := of_opcode 0x37 rfl rfl
theorem addHL_SP : Statement .addHL_SP := of_opcode 0x39 rfl rfl
theorem ldA_MemHLD : Statement .ldA_MemHLD := of_opcode 0x3A rfl rfl
theorem decSP : Statement .decSP := of_opcode 0x3B rfl rfl
theorem incA : Statement .incA := of_opcode 0x3C rfl rfl
theorem decA : Statement .decA := of_opcode 0x3D rfl rfl
theorem ccf : Statement .ccf := of_opcode 0x3F rfl rfl
theorem ldB_B : Statement .ldB_B := of_opcode 0x40 rfl rfl
theorem ldB_C : Statement .ldB_C := of_opcode 0x41 rfl rfl
theorem ldB_D : Statement .ldB_D := of_opcode 0x42 rfl rfl
theorem ldB_E : Statement .ldB_E := of_opcode 0x43 rfl rfl
theorem ldB_H : Statement .ldB_H := of_opcode 0x44 rfl rfl
theorem ldB_L : Statement .ldB_L := of_opcode 0x45 rfl rfl
theorem ldB_MemHL : Statement .ldB_MemHL := of_opcode 0x46 rfl rfl
theorem ldB_A : Statement .ldB_A := of_opcode 0x47 rfl rfl
theorem ldC_B : Statement .ldC_B := of_opcode 0x48 rfl rfl
theorem ldC_C : Statement .ldC_C := of_opcode 0x49 rfl rfl
theorem ldC_D : Statement .ldC_D := of_opcode 0x4A rfl rfl
theorem ldC_E : Statement .ldC_E := of_opcode 0x4B rfl rfl
theorem ldC_H : Statement .ldC_H := of_opcode 0x4C rfl rfl
theorem ldC_L : Statement .ldC_L := of_opcode 0x4D rfl rfl
theorem ldC_MemHL : Statement .ldC_MemHL := of_opcode 0x4E rfl rfl
theorem ldC_A : Statement .ldC_A := of_opcode 0x4F rfl rfl
theorem ldD_B : Statement .ldD_B := of_opcode 0x50 rfl rfl
theorem ldD_C : Statement .ldD_C := of_opcode 0x51 rfl rfl
theorem ldD_D : Statement .ldD_D := of_opcode 0x52 rfl rfl
theorem ldD_E : Statement .ldD_E := of_opcode 0x53 rfl rfl
theorem ldD_H : Statement .ldD_H := of_opcode 0x54 rfl rfl
theorem ldD_L : Statement .ldD_L := of_opcode 0x55 rfl rfl
theorem ldD_MemHL : Statement .ldD_MemHL := of_opcode 0x56 rfl rfl
theorem ldD_A : Statement .ldD_A := of_opcode 0x57 rfl rfl
theorem ldE_B : Statement .ldE_B := of_opcode 0x58 rfl rfl
theorem ldE_C : Statement .ldE_C := of_opcode 0x59 rfl rfl
theorem ldE_D : Statement .ldE_D := of_opcode 0x5A rfl rfl
theorem ldE_E : Statement .ldE_E := of_opcode 0x5B rfl rfl
theorem ldE_H : Statement .ldE_H := of_opcode 0x5C rfl rfl
theorem ldE_L : Statement .ldE_L := of_opcode 0x5D rfl rfl
theorem ldE_MemHL : Statement .ldE_MemHL := of_opcode 0x5E rfl rfl
theorem ldE_A : Statement .ldE_A := of_opcode 0x5F rfl rfl
theorem ldH_B : Statement .ldH_B := of_opcode 0x60 rfl rfl
theorem ldH_C : Statement .ldH_C := of_opcode 0x61 rfl rfl
theorem ldH_D : Statement .ldH_D := of_opcode 0x62 rfl rfl
theorem ldH_E : Statement .ldH_E := of_opcode 0x63 rfl rfl
theorem ldH_H : Statement .ldH_H := of_opcode 0x64 rfl rfl
theorem ldH_L : Statement .ldH_L := of_opcode 0x65 rfl rfl
theorem ldH_MemHL : Statement .ldH_MemHL := of_opcode 0x66 rfl rfl
theorem ldH_A : Statement .ldH_A := of_opcode 0x67 rfl rfl
theorem ldL_B : Statement .ldL_B := of_opcode 0x68 rfl rfl
theorem ldL_C : Statement .ldL_C := of_opcode 0x69 rfl rfl
theorem ldL_D : Statement .ldL_D := of_opcode 0x6A rfl rfl
theorem ldL_E : Statement .ldL_E := of_opcode 0x6B rfl rfl
theorem ldL_H : Statement .ldL_H := of_opcode 0x6C rfl rfl
theorem ldL_L : Statement .ldL_L := of_opcode 0x6D rfl rfl
theorem ldL_MemHL : Statement .ldL_MemHL := of_opcode 0x6E rfl rfl
theorem ldL_A : Statement .ldL_A := of_opcode 0x6F rfl rfl
theorem ldMemHL_B : Statement .ldMemHL_B := of_opcode 0x70 rfl rfl
theorem ldMemHL_C : Statement .ldMemHL_C := of_opcode 0x71 rfl rfl
theorem ldMemHL_D : Statement .ldMemHL_D := of_opcode 0x72 rfl rfl
theorem ldMemHL_E : Statement .ldMemHL_E := of_opcode 0x73 rfl rfl
theorem ldMemHL_H : Statement .ldMemHL_H := of_opcode 0x74 rfl rfl
theorem ldMemHL_L : Statement .ldMemHL_L := of_opcode 0x75 rfl rfl
theorem halt : Statement .halt := of_opcode 0x76 rfl rfl
theorem ldMemHL_A : Statement .ldMemHL_A := of_opcode 0x77 rfl rfl
theorem ldA_B : Statement .ldA_B := of_opcode 0x78 rfl rfl
theorem ldA_C : Statement .ldA_C := of_opcode 0x79 rfl rfl
theorem ldA_D : Statement .ldA_D := of_opcode 0x7A rfl rfl
theorem ldA_E : Statement .ldA_E := of_opcode 0x7B rfl rfl
theorem ldA_H : Statement .ldA_H := of_opcode 0x7C rfl rfl
theorem ldA_L : Statement .ldA_L := of_opcode 0x7D rfl rfl
theorem ldA_MemHL : Statement .ldA_MemHL := of_opcode 0x7E rfl rfl
theorem ldA_A : Statement .ldA_A := of_opcode 0x7F rfl rfl
theorem addA_B : Statement .addA_B := of_opcode 0x80 rfl rfl
theorem addA_C : Statement .addA_C := of_opcode 0x81 rfl rfl
theorem addA_D : Statement .addA_D := of_opcode 0x82 rfl rfl
theorem addA_E : Statement .addA_E := of_opcode 0x83 rfl rfl
theorem addA_H : Statement .addA_H := of_opcode 0x84 rfl rfl
theorem addA_L : Statement .addA_L := of_opcode 0x85 rfl rfl
theorem addA_MemHL : Statement .addA_MemHL := of_opcode 0x86 rfl rfl
theorem addA_A : Statement .addA_A := of_opcode 0x87 rfl rfl
theorem adcA_B : Statement .adcA_B := of_opcode 0x88 rfl rfl
theorem adcA_C : Statement .adcA_C := of_opcode 0x89 rfl rfl
theorem adcA_D : Statement .adcA_D := of_opcode 0x8A rfl rfl
theorem adcA_E : Statement .adcA_E := of_opcode 0x8B rfl rfl
theorem adcA_H : Statement .adcA_H := of_opcode 0x8C rfl rfl
theorem adcA_L : Statement .adcA_L := of_opcode 0x8D rfl rfl
theorem adcA_MemHL : Statement .adcA_MemHL := of_opcode 0x8E rfl rfl
theorem adcA_A : Statement .adcA_A := of_opcode 0x8F rfl rfl
theorem subB : Statement .subB := of_opcode 0x90 rfl rfl
theorem subC : Statement .subC := of_opcode 0x91 rfl rfl
theorem subD : Statement .subD := of_opcode 0x92 rfl rfl
theorem subE : Statement .subE := of_opcode 0x93 rfl rfl
theorem subH : Statement .subH := of_opcode 0x94 rfl rfl
theorem subL : Statement .subL := of_opcode 0x95 rfl rfl
theorem subMemHL : Statement .subMemHL := of_opcode 0x96 rfl rfl
theorem subA : Statement .subA := of_opcode 0x97 rfl rfl
theorem sbcA_B : Statement .sbcA_B := of_opcode 0x98 rfl rfl
theorem sbcA_C : Statement .sbcA_C := of_opcode 0x99 rfl rfl
theorem sbcA_D : Statement .sbcA_D := of_opcode 0x9A rfl rfl
theorem sbcA_E : Statement .sbcA_E := of_opcode 0x9B rfl rfl
theorem sbcA_H : Statement .sbcA_H := of_opcode 0x9C rfl rfl
theorem sbcA_L : Statement .sbcA_L := of_opcode 0x9D rfl rfl
theorem sbcA_MemHL : Statement .sbcA_MemHL := of_opcode 0x9E rfl rfl
theorem sbcA_A : Statement .sbcA_A := of_opcode 0x9F rfl rfl
theorem andB : Statement .andB := of_opcode 0xA0 rfl rfl
theorem andC : Statement .andC := of_opcode 0xA1 rfl rfl
theorem andD : Statement .andD := of_opcode 0xA2 rfl rfl
theorem andE : Statement .andE := of_opcode 0xA3 rfl rfl
theorem andH : Statement .andH := of_opcode 0xA4 rfl rfl
theorem andL : Statement .andL := of_opcode 0xA5 rfl rfl
theorem andMemHL : Statement .andMemHL := of_opcode 0xA6 rfl rfl
theorem andA : Statement .andA := of_opcode 0xA7 rfl rfl
theorem xorB : Statement .xorB := of_opcode 0xA8 rfl rfl
theorem xorC : Statement .xorC := of_opcode 0xA9 rfl rfl
theorem xorD : Statement .xorD := of_opcode 0xAA rfl rfl
theorem xorE : Statement .xorE := of_opcode 0xAB rfl rfl
theorem xorH : Statement .xorH := of_opcode 0xAC rfl rfl
theorem xorL : Statement .xorL := of_opcode 0xAD rfl rfl
theorem xorMemHL : Statement .xorMemHL := of_opcode 0xAE rfl rfl
theorem xorA : Statement .xorA := of_opcode 0xAF rfl rfl
theorem orB : Statement .orB := of_opcode 0xB0 rfl rfl
theorem orC : Statement .orC := of_opcode 0xB1 rfl rfl
theorem orD : Statement .orD := of_opcode 0xB2 rfl rfl
theorem orE : Statement .orE := of_opcode 0xB3 rfl rfl
theorem orH : Statement .orH := of_opcode 0xB4 rfl rfl
theorem orL : Statement .orL := of_opcode 0xB5 rfl rfl
theorem orMemHL : Statement .orMemHL := of_opcode 0xB6 rfl rfl
theorem orA : Statement .orA := of_opcode 0xB7 rfl rfl
theorem cpB : Statement .cpB := of_opcode 0xB8 rfl rfl
theorem cpC : Statement .cpC := of_opcode 0xB9 rfl rfl
theorem cpD : Statement .cpD := of_opcode 0xBA rfl rfl
theorem cpE : Statement .cpE := of_opcode 0xBB rfl rfl
theorem cpH : Statement .cpH := of_opcode 0xBC rfl rfl
theorem cpL : Statement .cpL := of_opcode 0xBD rfl rfl
theorem cpMemHL : Statement .cpMemHL := of_opcode 0xBE rfl rfl
theorem cpA : Statement .cpA := of_opcode 0xBF rfl rfl
theorem retNZ : Statement .retNZ := of_opcode 0xC0 rfl rfl
theorem popBC : Statement .popBC := of_opcode 0xC1 rfl rfl
theorem pushBC : Statement .pushBC := of_opcode 0xC5 rfl rfl
theorem rst00H : Statement .rst00H := of_opcode 0xC7 rfl rfl
theorem retZ : Statement .retZ := of_opcode 0xC8 rfl rfl
theorem ret : Statement .ret := of_opcode 0xC9 rfl rfl
theorem rst08H : Statement .rst08H := of_opcode 0xCF rfl rfl
theorem retNC : Statement .retNC := of_opcode 0xD0 rfl rfl
theorem popDE : Statement .popDE := of_opcode 0xD1 rfl rfl
theorem undefD3 : Statement .undefD3 := of_opcode 0xD3 rfl rfl
theorem pushDE : Statement .pushDE := of_opcode 0xD5 rfl rfl
theorem rst10H : Statement .rst10H := of_opcode 0xD7 rfl rfl
theorem retC : Statement .retC := of_opcode 0xD8 rfl rfl
theorem reti : Statement .reti := of_opcode 0xD9 rfl rfl
theorem undefDB : Statement .undefDB := of_opcode 0xDB rfl rfl
theorem undefDD : Statement .undefDD := of_opcode 0xDD rfl rfl
theorem rst18H : Statement .rst18H := of_opcode 0xDF rfl rfl
theorem popHL : Statement .popHL := of_opcode 0xE1 rfl rfl
theorem ldMemC_A : Statement .ldMemC_A := of_opcode 0xE2 rfl rfl
theorem undefE3 : Statement .undefE3 := of_opcode 0xE3 rfl rfl
theorem undefE4 : Statement .undefE4 := of_opcode 0xE4 rfl rfl
theorem pushHL : Statement .pushHL := of_opcode 0xE5 rfl rfl
theorem rst20H : Statement .rst20H := of_opcode 0xE7 rfl rfl
theorem jpHL : Statement .jpHL := of_opcode 0xE9 rfl rfl
theorem undefEB : Statement .undefEB := of_opcode 0xEB rfl rfl
theorem undefEC : Statement .undefEC := of_opcode 0xEC rfl rfl
theorem undefED : Statement .undefED := of_opcode 0xED rfl rfl
theorem rst28H : Statement .rst28H := of_opcode 0xEF rfl rfl
theorem popAF : Statement .popAF := of_opcode 0xF1 rfl rfl
theorem ldA_MemC : Statement .ldA_MemC := of_opcode 0xF2 rfl rfl
theorem di : Statement .di := of_opcode 0xF3 rfl rfl
theorem undefF4 : Statement .undefF4 := of_opcode 0xF4 rfl rfl
theorem pushAF : Statement .pushAF := of_opcode 0xF5 rfl rfl
theorem rst30H : Statement .rst30H := of_opcode 0xF7 rfl rfl
theorem ldSP_HL : Statement .ldSP_HL := of_opcode 0xF9 rfl rfl
theorem ei : Statement .ei := of_opcode 0xFB rfl rfl
theorem undefFC : Statement .undefFC := of_opcode 0xFC rfl rfl
theorem undefFD : Statement .undefFD := of_opcode 0xFD rfl rfl
theorem rst38H : Statement .rst38H := of_opcode 0xFF rfl rfl
theorem rlcB : Statement .rlcB := of_opcode 0xCB rfl rfl
theorem rlcC : Statement .rlcC := of_opcode 0xCB rfl rfl
theorem rlcD : Statement .rlcD := of_opcode 0xCB rfl rfl
theorem rlcE : Statement .rlcE := of_opcode 0xCB rfl rfl
theorem rlcH : Statement .rlcH := of_opcode 0xCB rfl rfl
theorem rlcL : Statement .rlcL := of_opcode 0xCB rfl rfl
theorem rlcMemHL : Statement .rlcMemHL := of_opcode 0xCB rfl rfl
theorem rlcA : Statement .rlcA := of_opcode 0xCB rfl rfl
theorem rrcB : Statement .rrcB := of_opcode 0xCB rfl rfl
theorem rrcC : Statement .rrcC := of_opcode 0xCB rfl rfl
theorem rrcD : Statement .rrcD := of_opcode 0xCB rfl rfl
theorem rrcE : Statement .rrcE := of_opcode 0xCB rfl rfl
theorem rrcH : Statement .rrcH := of_opcode 0xCB rfl rfl
theorem rrcL : Statement .rrcL := of_opcode 0xCB rfl rfl
theorem rrcMemHL : Statement .rrcMemHL := of_opcode 0xCB rfl rfl
theorem rrcA : Statement .rrcA := of_opcode 0xCB rfl rfl
theorem rlB : Statement .rlB := of_opcode 0xCB rfl rfl
theorem rlC : Statement .rlC := of_opcode 0xCB rfl rfl
theorem rlD : Statement .rlD := of_opcode 0xCB rfl rfl
theorem rlE : Statement .rlE := of_opcode 0xCB rfl rfl
theorem rlH : Statement .rlH := of_opcode 0xCB rfl rfl
theorem rlL : Statement .rlL := of_opcode 0xCB rfl rfl
theorem rlMemHL : Statement .rlMemHL := of_opcode 0xCB rfl rfl
theorem rlA : Statement .rlA := of_opcode 0xCB rfl rfl
theorem rrB : Statement .rrB := of_opcode 0xCB rfl rfl
theorem rrC : Statement .rrC := of_opcode 0xCB rfl rfl
theorem rrD : Statement .rrD := of_opcode 0xCB rfl rfl
theorem rrE : Statement .rrE := of_opcode 0xCB rfl rfl
theorem rrH : Statement .rrH := of_opcode 0xCB rfl rfl
theorem rrL : Statement .rrL := of_opcode 0xCB rfl rfl
theorem rrMemHL : Statement .rrMemHL := of_opcode 0xCB rfl rfl
theorem rrA : Statement .rrA := of_opcode 0xCB rfl rfl
theorem slaB : Statement .slaB := of_opcode 0xCB rfl rfl
theorem slaC : Statement .slaC := of_opcode 0xCB rfl rfl
theorem slaD : Statement .slaD := of_opcode 0xCB rfl rfl
theorem slaE : Statement .slaE := of_opcode 0xCB rfl rfl
theorem slaH : Statement .slaH := of_opcode 0xCB rfl rfl
theorem slaL : Statement .slaL := of_opcode 0xCB rfl rfl
theorem slaMemHL : Statement .slaMemHL := of_opcode 0xCB rfl rfl
theorem slaA : Statement .slaA := of_opcode 0xCB rfl rfl
theorem sraB : Statement .sraB := of_opcode 0xCB rfl rfl
theorem sraC : Statement .sraC := of_opcode 0xCB rfl rfl
theorem sraD : Statement .sraD := of_opcode 0xCB rfl rfl
theorem sraE : Statement .sraE := of_opcode 0xCB rfl rfl
theorem sraH : Statement .sraH := of_opcode 0xCB rfl rfl
theorem sraL : Statement .sraL := of_opcode 0xCB rfl rfl
theorem sraMemHL : Statement .sraMemHL := of_opcode 0xCB rfl rfl
theorem sraA : Statement .sraA := of_opcode 0xCB rfl rfl
theorem swapB : Statement .swapB := of_opcode 0xCB rfl rfl
theorem swapC : Statement .swapC := of_opcode 0xCB rfl rfl
theorem swapD : Statement .swapD := of_opcode 0xCB rfl rfl
theorem swapE : Statement .swapE := of_opcode 0xCB rfl rfl
theorem swapH : Statement .swapH := of_opcode 0xCB rfl rfl
theorem swapL : Statement .swapL := of_opcode 0xCB rfl rfl
theorem swapMemHL : Statement .swapMemHL := of_opcode 0xCB rfl rfl
theorem swapA : Statement .swapA := of_opcode 0xCB rfl rfl
theorem srlB : Statement .srlB := of_opcode 0xCB rfl rfl
theorem srlC : Statement .srlC := of_opcode 0xCB rfl rfl
theorem srlD : Statement .srlD := of_opcode 0xCB rfl rfl
theorem srlE : Statement .srlE := of_opcode 0xCB rfl rfl
theorem srlH : Statement .srlH := of_opcode 0xCB rfl rfl
theorem srlL : Statement .srlL := of_opcode 0xCB rfl rfl
theorem srlMemHL : Statement .srlMemHL := of_opcode 0xCB rfl rfl
theorem srlA : Statement .srlA := of_opcode 0xCB rfl rfl
theorem bit0_B : Statement .bit0_B := of_opcode 0xCB rfl rfl
theorem bit0_C : Statement .bit0_C := of_opcode 0xCB rfl rfl
theorem bit0_D : Statement .bit0_D := of_opcode 0xCB rfl rfl
theorem bit0_E : Statement .bit0_E := of_opcode 0xCB rfl rfl
theorem bit0_H : Statement .bit0_H := of_opcode 0xCB rfl rfl
theorem bit0_L : Statement .bit0_L := of_opcode 0xCB rfl rfl
theorem bit0_MemHL : Statement .bit0_MemHL := of_opcode 0xCB rfl rfl
theorem bit0_A : Statement .bit0_A := of_opcode 0xCB rfl rfl
theorem bit1_B : Statement .bit1_B := of_opcode 0xCB rfl rfl
theorem bit1_C : Statement .bit1_C := of_opcode 0xCB rfl rfl
theorem bit1_D : Statement .bit1_D := of_opcode 0xCB rfl rfl
theorem bit1_E : Statement .bit1_E := of_opcode 0xCB rfl rfl
theorem bit1_H : Statement .bit1_H := of_opcode 0xCB rfl rfl
theorem bit1_L : Statement .bit1_L := of_opcode 0xCB rfl rfl
theorem bit1_MemHL : Statement .bit1_MemHL := of_opcode 0xCB rfl rfl
theorem bit1_A : Statement .bit1_A := of_opcode 0xCB rfl rfl
theorem bit2_B : Statement .bit2_B := of_opcode 0xCB rfl rfl
theorem bit2_C : Statement .bit2_C := of_opcode 0xCB rfl rfl
theorem bit2_D : Statement .bit2_D := of_opcode 0xCB rfl rfl
theorem bit2_E : Statement .bit2_E := of_opcode 0xCB rfl rfl
theorem bit2_H : Statement .bit2_H := of_opcode 0xCB rfl rfl
theorem bit2_L : Statement .bit2_L := of_opcode 0xCB rfl rfl
theorem bit2_MemHL : Statement .bit2_MemHL := of_opcode 0xCB rfl rfl
theorem bit2_A : Statement .bit2_A := of_opcode 0xCB rfl rfl
theorem bit3_B : Statement .bit3_B := of_opcode 0xCB rfl rfl
theorem bit3_C : Statement .bit3_C := of_opcode 0xCB rfl rfl
theorem bit3_D : Statement .bit3_D := of_opcode 0xCB rfl rfl
theorem bit3_E : Statement .bit3_E := of_opcode 0xCB rfl rfl
theorem bit3_H : Statement .bit3_H := of_opcode 0xCB rfl rfl
theorem bit3_L : Statement .bit3_L := of_opcode 0xCB rfl rfl
theorem bit3_MemHL : Statement .bit3_MemHL := of_opcode 0xCB rfl rfl
theorem bit3_A : Statement .bit3_A := of_opcode 0xCB rfl rfl
theorem bit4_B : Statement .bit4_B := of_opcode 0xCB rfl rfl
theorem bit4_C : Statement .bit4_C := of_opcode 0xCB rfl rfl
theorem bit4_D : Statement .bit4_D := of_opcode 0xCB rfl rfl
theorem bit4_E : Statement .bit4_E := of_opcode 0xCB rfl rfl
theorem bit4_H : Statement .bit4_H := of_opcode 0xCB rfl rfl
theorem bit4_L : Statement .bit4_L := of_opcode 0xCB rfl rfl
theorem bit4_MemHL : Statement .bit4_MemHL := of_opcode 0xCB rfl rfl
theorem bit4_A : Statement .bit4_A := of_opcode 0xCB rfl rfl
theorem bit5_B : Statement .bit5_B := of_opcode 0xCB rfl rfl
theorem bit5_C : Statement .bit5_C := of_opcode 0xCB rfl rfl
theorem bit5_D : Statement .bit5_D := of_opcode 0xCB rfl rfl
theorem bit5_E : Statement .bit5_E := of_opcode 0xCB rfl rfl
theorem bit5_H : Statement .bit5_H := of_opcode 0xCB rfl rfl
theorem bit5_L : Statement .bit5_L := of_opcode 0xCB rfl rfl
theorem bit5_MemHL : Statement .bit5_MemHL := of_opcode 0xCB rfl rfl
theorem bit5_A : Statement .bit5_A := of_opcode 0xCB rfl rfl
theorem bit6_B : Statement .bit6_B := of_opcode 0xCB rfl rfl
theorem bit6_C : Statement .bit6_C := of_opcode 0xCB rfl rfl
theorem bit6_D : Statement .bit6_D := of_opcode 0xCB rfl rfl
theorem bit6_E : Statement .bit6_E := of_opcode 0xCB rfl rfl
theorem bit6_H : Statement .bit6_H := of_opcode 0xCB rfl rfl
theorem bit6_L : Statement .bit6_L := of_opcode 0xCB rfl rfl
theorem bit6_MemHL : Statement .bit6_MemHL := of_opcode 0xCB rfl rfl
theorem bit6_A : Statement .bit6_A := of_opcode 0xCB rfl rfl
theorem bit7_B : Statement .bit7_B := of_opcode 0xCB rfl rfl
theorem bit7_C : Statement .bit7_C := of_opcode 0xCB rfl rfl
theorem bit7_D : Statement .bit7_D := of_opcode 0xCB rfl rfl
theorem bit7_E : Statement .bit7_E := of_opcode 0xCB rfl rfl
theorem bit7_H : Statement .bit7_H := of_opcode 0xCB rfl rfl
theorem bit7_L : Statement .bit7_L := of_opcode 0xCB rfl rfl
theorem bit7_MemHL : Statement .bit7_MemHL := of_opcode 0xCB rfl rfl
theorem bit7_A : Statement .bit7_A := of_opcode 0xCB rfl rfl
theorem res0_B : Statement .res0_B := of_opcode 0xCB rfl rfl
theorem res0_C : Statement .res0_C := of_opcode 0xCB rfl rfl
theorem res0_D : Statement .res0_D := of_opcode 0xCB rfl rfl
theorem res0_E : Statement .res0_E := of_opcode 0xCB rfl rfl
theorem res0_H : Statement .res0_H := of_opcode 0xCB rfl rfl
theorem res0_L : Statement .res0_L := of_opcode 0xCB rfl rfl
theorem res0_MemHL : Statement .res0_MemHL := of_opcode 0xCB rfl rfl
theorem res0_A : Statement .res0_A := of_opcode 0xCB rfl rfl
theorem res1_B : Statement .res1_B := of_opcode 0xCB rfl rfl
theorem res1_C : Statement .res1_C := of_opcode 0xCB rfl rfl
theorem res1_D : Statement .res1_D := of_opcode 0xCB rfl rfl
theorem res1_E : Statement .res1_E := of_opcode 0xCB rfl rfl
theorem res1_H : Statement .res1_H := of_opcode 0xCB rfl rfl
theorem res1_L : Statement .res1_L := of_opcode 0xCB rfl rfl
theorem res1_MemHL : Statement .res1_MemHL := of_opcode 0xCB rfl rfl
theorem res1_A : Statement .res1_A := of_opcode 0xCB rfl rfl
theorem res2_B : Statement .res2_B := of_opcode 0xCB rfl rfl
theorem res2_C : Statement .res2_C := of_opcode 0xCB rfl rfl
theorem res2_D : Statement .res2_D := of_opcode 0xCB rfl rfl
theorem res2_E : Statement .res2_E := of_opcode 0xCB rfl rfl
theorem res2_H : Statement .res2_H := of_opcode 0xCB rfl rfl
theorem res2_L : Statement .res2_L := of_opcode 0xCB rfl rfl
theorem res2_MemHL : Statement .res2_MemHL := of_opcode 0xCB rfl rfl
theorem res2_A : Statement .res2_A := of_opcode 0xCB rfl rfl
theorem res3_B : Statement .res3_B := of_opcode 0xCB rfl rfl
theorem res3_C : Statement .res3_C := of_opcode 0xCB rfl rfl
theorem res3_D : Statement .res3_D := of_opcode 0xCB rfl rfl
theorem res3_E : Statement .res3_E := of_opcode 0xCB rfl rfl
theorem res3_H : Statement .res3_H := of_opcode 0xCB rfl rfl
theorem res3_L : Statement .res3_L := of_opcode 0xCB rfl rfl
theorem res3_MemHL : Statement .res3_MemHL := of_opcode 0xCB rfl rfl
theorem res3_A : Statement .res3_A := of_opcode 0xCB rfl rfl
theorem res4_B : Statement .res4_B := of_opcode 0xCB rfl rfl
theorem res4_C : Statement .res4_C := of_opcode 0xCB rfl rfl
theorem res4_D : Statement .res4_D := of_opcode 0xCB rfl rfl
theorem res4_E : Statement .res4_E := of_opcode 0xCB rfl rfl
theorem res4_H : Statement .res4_H := of_opcode 0xCB rfl rfl
theorem res4_L : Statement .res4_L := of_opcode 0xCB rfl rfl
theorem res4_MemHL : Statement .res4_MemHL := of_opcode 0xCB rfl rfl
theorem res4_A : Statement .res4_A := of_opcode 0xCB rfl rfl
theorem res5_B : Statement .res5_B := of_opcode 0xCB rfl rfl
theorem res5_C : Statement .res5_C := of_opcode 0xCB rfl rfl
theorem res5_D : Statement .res5_D := of_opcode 0xCB rfl rfl
theorem res5_E : Statement .res5_E := of_opcode 0xCB rfl rfl
theorem res5_H : Statement .res5_H := of_opcode 0xCB rfl rfl
theorem res5_L : Statement .res5_L := of_opcode 0xCB rfl rfl
theorem res5_MemHL : Statement .res5_MemHL := of_opcode 0xCB rfl rfl
theorem res5_A : Statement .res5_A := of_opcode 0xCB rfl rfl
theorem res6_B : Statement .res6_B := of_opcode 0xCB rfl rfl
theorem res6_C : Statement .res6_C := of_opcode 0xCB rfl rfl
theorem res6_D : Statement .res6_D := of_opcode 0xCB rfl rfl
theorem res6_E : Statement .res6_E := of_opcode 0xCB rfl rfl
theorem res6_H : Statement .res6_H := of_opcode 0xCB rfl rfl
theorem res6_L : Statement .res6_L := of_opcode 0xCB rfl rfl
theorem res6_MemHL : Statement .res6_MemHL := of_opcode 0xCB rfl rfl
theorem res6_A : Statement .res6_A := of_opcode 0xCB rfl rfl
theorem res7_B : Statement .res7_B := of_opcode 0xCB rfl rfl
theorem res7_C : Statement .res7_C := of_opcode 0xCB rfl rfl
theorem res7_D : Statement .res7_D := of_opcode 0xCB rfl rfl
theorem res7_E : Statement .res7_E := of_opcode 0xCB rfl rfl
theorem res7_H : Statement .res7_H := of_opcode 0xCB rfl rfl
theorem res7_L : Statement .res7_L := of_opcode 0xCB rfl rfl
theorem res7_MemHL : Statement .res7_MemHL := of_opcode 0xCB rfl rfl
theorem res7_A : Statement .res7_A := of_opcode 0xCB rfl rfl
theorem set0_B : Statement .set0_B := of_opcode 0xCB rfl rfl
theorem set0_C : Statement .set0_C := of_opcode 0xCB rfl rfl
theorem set0_D : Statement .set0_D := of_opcode 0xCB rfl rfl
theorem set0_E : Statement .set0_E := of_opcode 0xCB rfl rfl
theorem set0_H : Statement .set0_H := of_opcode 0xCB rfl rfl
theorem set0_L : Statement .set0_L := of_opcode 0xCB rfl rfl
theorem set0_MemHL : Statement .set0_MemHL := of_opcode 0xCB rfl rfl
theorem set0_A : Statement .set0_A := of_opcode 0xCB rfl rfl
theorem set1_B : Statement .set1_B := of_opcode 0xCB rfl rfl
theorem set1_C : Statement .set1_C := of_opcode 0xCB rfl rfl
theorem set1_D : Statement .set1_D := of_opcode 0xCB rfl rfl
theorem set1_E : Statement .set1_E := of_opcode 0xCB rfl rfl
theorem set1_H : Statement .set1_H := of_opcode 0xCB rfl rfl
theorem set1_L : Statement .set1_L := of_opcode 0xCB rfl rfl
theorem set1_MemHL : Statement .set1_MemHL := of_opcode 0xCB rfl rfl
theorem set1_A : Statement .set1_A := of_opcode 0xCB rfl rfl
theorem set2_B : Statement .set2_B := of_opcode 0xCB rfl rfl
theorem set2_C : Statement .set2_C := of_opcode 0xCB rfl rfl
theorem set2_D : Statement .set2_D := of_opcode 0xCB rfl rfl
theorem set2_E : Statement .set2_E := of_opcode 0xCB rfl rfl
theorem set2_H : Statement .set2_H := of_opcode 0xCB rfl rfl
theorem set2_L : Statement .set2_L := of_opcode 0xCB rfl rfl
theorem set2_MemHL : Statement .set2_MemHL := of_opcode 0xCB rfl rfl
theorem set2_A : Statement .set2_A := of_opcode 0xCB rfl rfl
theorem set3_B : Statement .set3_B := of_opcode 0xCB rfl rfl
theorem set3_C : Statement .set3_C := of_opcode 0xCB rfl rfl
theorem set3_D : Statement .set3_D := of_opcode 0xCB rfl rfl
theorem set3_E : Statement .set3_E := of_opcode 0xCB rfl rfl
theorem set3_H : Statement .set3_H := of_opcode 0xCB rfl rfl
theorem set3_L : Statement .set3_L := of_opcode 0xCB rfl rfl
theorem set3_MemHL : Statement .set3_MemHL := of_opcode 0xCB rfl rfl
theorem set3_A : Statement .set3_A := of_opcode 0xCB rfl rfl
theorem set4_B : Statement .set4_B := of_opcode 0xCB rfl rfl
theorem set4_C : Statement .set4_C := of_opcode 0xCB rfl rfl
theorem set4_D : Statement .set4_D := of_opcode 0xCB rfl rfl
theorem set4_E : Statement .set4_E := of_opcode 0xCB rfl rfl
theorem set4_H : Statement .set4_H := of_opcode 0xCB rfl rfl
theorem set4_L : Statement .set4_L := of_opcode 0xCB rfl rfl
theorem set4_MemHL : Statement .set4_MemHL := of_opcode 0xCB rfl rfl
theorem set4_A : Statement .set4_A := of_opcode 0xCB rfl rfl
theorem set5_B : Statement .set5_B := of_opcode 0xCB rfl rfl
theorem set5_C : Statement .set5_C := of_opcode 0xCB rfl rfl
theorem set5_D : Statement .set5_D := of_opcode 0xCB rfl rfl
theorem set5_E : Statement .set5_E := of_opcode 0xCB rfl rfl
theorem set5_H : Statement .set5_H := of_opcode 0xCB rfl rfl
theorem set5_L : Statement .set5_L := of_opcode 0xCB rfl rfl
theorem set5_MemHL : Statement .set5_MemHL := of_opcode 0xCB rfl rfl
theorem set5_A : Statement .set5_A := of_opcode 0xCB rfl rfl
theorem set6_B : Statement .set6_B := of_opcode 0xCB rfl rfl
theorem set6_C : Statement .set6_C := of_opcode 0xCB rfl rfl
theorem set6_D : Statement .set6_D := of_opcode 0xCB rfl rfl
theorem set6_E : Statement .set6_E := of_opcode 0xCB rfl rfl
theorem set6_H : Statement .set6_H := of_opcode 0xCB rfl rfl
theorem set6_L : Statement .set6_L := of_opcode 0xCB rfl rfl
theorem set6_MemHL : Statement .set6_MemHL := of_opcode 0xCB rfl rfl
theorem set6_A : Statement .set6_A := of_opcode 0xCB rfl rfl
theorem set7_B : Statement .set7_B := of_opcode 0xCB rfl rfl
theorem set7_C : Statement .set7_C := of_opcode 0xCB rfl rfl
theorem set7_D : Statement .set7_D := of_opcode 0xCB rfl rfl
theorem set7_E : Statement .set7_E := of_opcode 0xCB rfl rfl
theorem set7_H : Statement .set7_H := of_opcode 0xCB rfl rfl
theorem set7_L : Statement .set7_L := of_opcode 0xCB rfl rfl
theorem set7_MemHL : Statement .set7_MemHL := of_opcode 0xCB rfl rfl
theorem set7_A : Statement .set7_A := of_opcode 0xCB rfl rfl

end Sys2Proof.Laws.FirstByteLength
end

