-- ==== Sys2Proof/Laws/Steps.lean ====
section
/-! SUPPORT. A whole step: its branch followed by the tick and the devices, what the tick and the devices leave alone, and
the fetch of an instruction said by its bytes. -/

namespace Sys2Proof.Machine

/-- A step is its branch, then the IME tick, then the devices (40_step_engine.md R140, R141). -/
theorem step_of_branch {s t : State} (h : s.stepBranch exec = .next t) :
    step s = .next (t.tickIme.deviceUpdate t.cycles) := by
  unfold step State.systemStep State.cpuStep
  rw [h]
  rfl

theorem tickIme_cpu_frame (c : Cpu) : tickDisable (tickEnable c) =
    { c with ime := (tickDisable (tickEnable c)).ime, imeEnableDelay := (tickDisable (tickEnable c)).imeEnableDelay,
             imeDisableDelay := (tickDisable (tickEnable c)).imeDisableDelay } := by
  have he : tickEnable c = { c with ime := (tickEnable c).ime, imeEnableDelay := (tickEnable c).imeEnableDelay } := by
    unfold tickEnable
    split
    · rfl
    · split <;> rfl
  have hd : ∀ d : Cpu, tickDisable d = { d with ime := (tickDisable d).ime, imeDisableDelay := (tickDisable d).imeDisableDelay } := by
    intro d
    unfold tickDisable
    split
    · rfl
    · split <;> rfl
  generalize hx : tickEnable c = x at he
  rw [hd x, he]

/-- The tick changes IME and the two delay counters only (60_exceptions.md R407). -/
theorem tickIme_frame (s : State) : s.tickIme = { s with cpu := { s.cpu with
    ime := s.tickIme.cpu.ime, imeEnableDelay := s.tickIme.cpu.imeEnableDelay,
    imeDisableDelay := s.tickIme.cpu.imeDisableDelay } } := by
  unfold State.tickIme
  exact congrArg (fun c => { s with cpu := c }) (tickIme_cpu_frame s.cpu)

/-- A delay counter after a tick: one less, or none once it has fired (R407). -/
def ticked (delay : Option Nat) : Option Nat := delay.bind fun n => if n ≤ 1 then none else some (n - 1)

/-- A delay counter fires at the tick. -/
def fires (delay : Option Nat) : Bool := delay.any (· ≤ 1)

/-- Everything the tick does: both counters count down, and IME ends off where the disabling one fires, else on where the
enabling one does (R407). -/
theorem tickIme_cpu (s : State) : s.tickIme.cpu = { s.cpu with
    ime := !fires s.cpu.imeDisableDelay && (fires s.cpu.imeEnableDelay || s.cpu.ime),
    imeEnableDelay := ticked s.cpu.imeEnableDelay, imeDisableDelay := ticked s.cpu.imeDisableDelay } := by
  have e : ∀ n : Nat, (n - 1 = 0) = (n ≤ 1) := fun n => propext (by omega)
  obtain ⟨⟨a, f, b, c, d, x, h, l, sp, pc, ime, en, dis, ha, st⟩⟩ := s
  rcases en with _ | n <;> rcases dis with _ | m <;>
    simp only [State.tickIme, tickEnable, tickDisable, ticked, fires, Option.bind, Option.any, e]
  · rfl
  · by_cases hm : m ≤ 1 <;> simp [hm]
  · by_cases hn : n ≤ 1 <;> simp [hn]
  · by_cases hn : n ≤ 1 <;> by_cases hm : m ≤ 1 <;> simp [hn, hm]

/-- IE is written by the bus only: no device touches it. -/
@[simp] theorem raiseIrq_enable (s : State) (i : IrqSource) : (s.raiseIrq i).irq.enable = s.irq.enable := rfl

theorem ppuUpdate_enable (s : State) (c : Nat) : (s.ppuUpdate c).irq.enable = s.irq.enable := by
  have ht : ∀ s : State, s.ppuTransition.irq.enable = s.irq.enable := by
    intro s
    unfold State.ppuTransition State.renderLine
    split
    · rfl
    · simp only
      split <;> rfl
    · simp only
      split <;> rfl
    · rfl
  have hr : ∀ n (s : State), (s.ppuRun n).irq.enable = s.irq.enable := by
    intro n
    induction n with
    | zero => exact fun _ => rfl
    | succ n ih =>
      intro s
      unfold State.ppuRun
      split
      · rw [ih, ht]
      · rfl
  unfold State.ppuUpdate
  rw [hr]
  unfold State.ppuCompare
  simp only
  split <;> rfl

theorem timerUpdate_enable (s : State) (c : Nat) : (s.timerUpdate c).irq.enable = s.irq.enable := by
  have ht : ∀ s : State, s.timaTick.irq.enable = s.irq.enable := by
    intro s
    unfold State.timaTick
    split <;> rfl
  have hn : ∀ n (s : State), (s.timaTicks n).irq.enable = s.irq.enable := by
    intro n
    induction n with
    | zero => exact fun _ => rfl
    | succ n ih => exact fun s => (ih _).trans (ht s)
  unfold State.timerUpdate State.updateTima
  split
  · simp only [hn]
  · rfl

@[simp] theorem deviceUpdate_enable (s : State) (c : Nat) : (s.deviceUpdate c).irq.enable = s.irq.enable := by
  unfold State.deviceUpdate
  simp [ppuUpdate_enable, timerUpdate_enable]

/-- With none of IE's bits 4..0 set nothing is pending and enabled (R402). -/
theorem nextTriggered_none {s : State} (h : s.irq.enable &&& 0x1F = 0) : s.nextTriggered = none := by
  have hm : s.pendingMask = 0 := by
    have he : s.irq.enable.truncate 5 = 0 := by
      revert h
      generalize s.irq.enable = e
      revert e
      decide +kernel
    unfold State.pendingMask
    rw [he]
    simp
  simp [State.nextTriggered, hm]

/-! ## Fetching -/

theorem noteAccess_setPc (s : State) (a w : Word) : (s.setPc w).noteAccess a = (s.noteAccess a).setPc w := by
  unfold State.noteAccess
  split <;> rfl

@[simp] theorem setPc_setPc (s : State) (v w : Word) : (s.setPc v).setPc w = s.setPc w := rfl

@[simp] theorem peek_noteAccess (s : State) (b a : Word) : (s.noteAccess b).peek a = s.peek a :=
  peek_of_sameDevices (sameDevices_noteAccess s b) a

/-- Where the bytes at PC are those of a well-formed instruction, the fetch answers it, with PC past them (R11, R144). -/
theorem fetchInstr_of_bytes {s : State} {i : Instr} (hw : i.WellFormed = true)
    (h : ∀ k, k < (encode i).length → s.peek (s.cpu.pc + BitVec.ofNat 16 k) = (encode i).getD k 0) :
    s.fetchInstr = (i, s.fetched (encode i).length) := by
  have e1 : s.cpu.pc + 1#16 + 1#16 = s.cpu.pc + 2#16 := by bv_omega
  have e2 : s.cpu.pc + 2#16 + 1#16 = s.cpu.pc + 3#16 := by bv_omega
  unfold State.fetchInstr State.fetched
  cases i.placed hw with
  | plain op hr he =>
    rw [he] at h ⊢
    have h0 : s.peek s.cpu.pc = op := by simpa using h 0 (by simp)
    simp [State.fetch8, h0, hr]
  | imm8 op f v hr hi he =>
    rw [he] at h ⊢
    have h0 : s.peek s.cpu.pc = op := by simpa using h 0 (by simp)
    have h1 : s.peek (s.cpu.pc + 1#16) = v := by simpa using h 1 (by simp)
    simp [State.fetch8, h0, h1, hr, hi, List.range_succ, e1, noteAccess_setPc]
  | imm16 op f w hr hi he =>
    rw [he] at h ⊢
    have h0 : s.peek s.cpu.pc = op := by simpa using h 0 (by simp)
    have h1 : s.peek (s.cpu.pc + 1#16) = loByte w := by simpa using h 1 (by simp)
    have h2 : s.peek (s.cpu.pc + 2#16) = hiByte w := by simpa using h 2 (by simp)
    simp [State.fetch8, State.fetch16, h0, h1, h2, hr, hi, List.range_succ, e1, e2, noteAccess_setPc]
  | escape cb hi he =>
    rw [he] at h ⊢
    have h0 : s.peek s.cpu.pc = 0xCB := by simpa using h 0 (by simp)
    have h1 : s.peek (s.cpu.pc + 1#16) = cb := by simpa using h 1 (by simp)
    have hr : baseRow 203#8 = .escape := rfl
    simp [State.fetch8, h0, h1, hr, hi, List.range_succ, e1, noteAccess_setPc]

/-- A fetch reads the bus and moves PC. -/
theorem reach_fetchInstr (s : State) : Reach s s.fetchInstr.2 := by
  have h8 : ∀ t, Reach s t → Reach s t.fetch8.2 := fun t h => (h.access _).setPc _
  unfold State.fetchInstr
  simp only
  split
  · exact h8 _ .refl
  · exact h8 _ (h8 _ .refl)
  · exact h8 _ (h8 _ (h8 _ .refl))
  · exact h8 _ (h8 _ .refl)

/-! ## Running an instruction -/

/-- A running step executes the instruction at PC (R140). -/
theorem stepBranch_of_runs {s : State} (h : s.Runs) : s.stepBranch exec = s.executeInstruction exec := by
  obtain ⟨h1, h2, h3⟩ := h
  unfold State.stepBranch
  rcases h3 with h3 | h3 <;> simp [h1, h2, h3]
  split <;> rfl

/-- Every meaning answers a next state. -/
theorem exec_next (i : Instr) (s : State) : ∃ t, exec i s = .next t := by
  by_cases h : i = .reti
  · subst h
    exact ⟨_, exec_reti s⟩
  · obtain ⟨n, u, h, -, -⟩ := exec_meant i s h
    exact ⟨_, h⟩

/-- Register updates and bus accesses leave the parameters alone. -/
theorem Reach.params {s t : State} (h : Reach s t) : t.params = s.params := by
  induction h with
  | refl => rfl
  | cpu _ _ ih => exact ih
  | access a _ ih => simpa using ih
  | write a v _ ih => simpa using ih
  | log e _ ih => simpa using ih

/-- Register updates and bus accesses leave IME alone. -/
theorem Reach.ime {s t : State} (h : Reach s t) : t.cpu.ime = s.cpu.ime := by
  induction h with
  | refl => rfl
  | cpu _ m ih => exact m.ime.trans ih
  | access a _ ih => simpa using ih
  | write a v _ ih => simpa using ih
  | log e _ ih => simpa using ih

end Sys2Proof.Machine
end

