-- ==== Sys2Proof/Laws/Relabel.lean ====
section
/-! SUPPORT. No rule reads the diagnostic log or the host's budget (10_state.md R40, 40_step_engine.md R142): a step from a
state with more events before its log and another budget is the same step, with the same events before the log and the
same budget. -/

namespace Sys2Proof.Machine

/-- The state with the events d before its log, and the budget b. -/
def State.relabel (s : State) (d : List Diag) (b : Rat) : State := { s with diag := d ++ s.diag, budget := b }

variable (s : State) (d : List Diag) (b : Rat)

/-! ## What is read -/

@[simp] theorem relabel_cpu : (s.relabel d b).cpu = s.cpu := rfl
@[simp] theorem relabel_irq : (s.relabel d b).irq = s.irq := rfl
@[simp] theorem relabel_timer : (s.relabel d b).timer = s.timer := rfl
@[simp] theorem relabel_ppu : (s.relabel d b).ppu = s.ppu := rfl
@[simp] theorem relabel_dma : (s.relabel d b).dma = s.dma := rfl
@[simp] theorem relabel_joypad : (s.relabel d b).joypad = s.joypad := rfl
@[simp] theorem relabel_serial : (s.relabel d b).serial = s.serial := rfl
@[simp] theorem relabel_cart : (s.relabel d b).cart = s.cart := rfl
@[simp] theorem relabel_mem : (s.relabel d b).mem = s.mem := rfl
@[simp] theorem relabel_cycles : (s.relabel d b).cycles = s.cycles := rfl
@[simp] theorem relabel_params : (s.relabel d b).params = s.params := rfl
@[simp] theorem relabel_peek (a : Word) : (s.relabel d b).peek a = s.peek a := rfl
@[simp] theorem relabel_getReg (r : Reg8) : (s.relabel d b).getReg r = s.getReg r := rfl
@[simp] theorem relabel_getPair (p : Pair) : (s.relabel d b).getPair p = s.getPair p := rfl
@[simp] theorem relabel_getStackPair (p : StackPair) : (s.relabel d b).getStackPair p = s.getStackPair p := rfl
@[simp] theorem relabel_hl : (s.relabel d b).hl = s.hl := rfl
@[simp] theorem relabel_bc : (s.relabel d b).bc = s.bc := rfl
@[simp] theorem relabel_de : (s.relabel d b).de = s.de := rfl
@[simp] theorem relabel_flags : (s.relabel d b).flags = s.flags := rfl
@[simp] theorem relabel_cond (cc : Cond) : (s.relabel d b).cond cc = s.cond cc := rfl
@[simp] theorem relabel_nextTriggered : (s.relabel d b).nextTriggered = s.nextTriggered := rfl

/-! ## The named operations -/

@[simp] theorem relabel_setReg (r : Reg8) (v : Byte) : (s.relabel d b).setReg r v = (s.setReg r v).relabel d b := by
  cases r <;> rfl
@[simp] theorem relabel_setFlags (f : Flags) : (s.relabel d b).setFlags f = (s.setFlags f).relabel d b := rfl
@[simp] theorem relabel_setPc (w : Word) : (s.relabel d b).setPc w = (s.setPc w).relabel d b := rfl
@[simp] theorem relabel_setSp (w : Word) : (s.relabel d b).setSp w = (s.setSp w).relabel d b := rfl
@[simp] theorem relabel_setIme (v : Bool) : (s.relabel d b).setIme v = (s.setIme v).relabel d b := rfl
@[simp] theorem relabel_setHalted (v : Bool) : (s.relabel d b).setHalted v = (s.setHalted v).relabel d b := rfl
@[simp] theorem relabel_setStopped (v : Bool) : (s.relabel d b).setStopped v = (s.setStopped v).relabel d b := rfl
@[simp] theorem relabel_scheduleEnable (n : Nat) : (s.relabel d b).scheduleEnable n = (s.scheduleEnable n).relabel d b := rfl
@[simp] theorem relabel_scheduleDisable (n : Nat) : (s.relabel d b).scheduleDisable n = (s.scheduleDisable n).relabel d b :=
  rfl
@[simp] theorem relabel_setCycles (n : Nat) : (s.relabel d b).setCycles n = (s.setCycles n).relabel d b := rfl
@[simp] theorem relabel_setHl (w : Word) : (s.relabel d b).setHl w = (s.setHl w).relabel d b := rfl
@[simp] theorem relabel_setPair (p : Pair) (w : Word) : (s.relabel d b).setPair p w = (s.setPair p w).relabel d b := by
  cases p <;> rfl
@[simp] theorem relabel_setStackPair (p : StackPair) (w : Word) :
    (s.relabel d b).setStackPair p w = (s.setStackPair p w).relabel d b := by
  cases p <;> rfl
@[simp] theorem relabel_clearIrq (i : IrqSource) : (s.relabel d b).clearIrq i = (s.clearIrq i).relabel d b := rfl
@[simp] theorem relabel_raiseIrq (i : IrqSource) : (s.relabel d b).raiseIrq i = (s.raiseIrq i).relabel d b := rfl
@[simp] theorem relabel_writeCell (k : Nat) (v : Byte) : (s.relabel d b).writeCell k v = (s.writeCell k v).relabel d b := rfl

@[simp] theorem relabel_logDiag (e : Diag) : (s.relabel d b).logDiag e = (s.logDiag e).relabel d b := by
  simp [State.relabel, State.logDiag]

@[simp] theorem relabel_noteAccess (a : Word) : (s.relabel d b).noteAccess a = (s.noteAccess a).relabel d b := by
  unfold State.noteAccess
  split <;> simp

@[simp] theorem relabel_writeTarget (t : Target) (v : Byte) :
    (s.relabel d b).writeTarget t v = (s.writeTarget t v).relabel d b := by
  cases t <;> try rfl
  case cartRam off =>
    unfold State.writeTarget
    simp only [relabel_cart]
    split <;> rfl
  case serialControl =>
    simp only [State.writeTarget, State.writeSc]
    split <;> rfl

@[simp] theorem relabel_read8 (a : Word) :
    (s.relabel d b).read8 a = ((s.read8 a).1, (s.read8 a).2.relabel d b) := by simp [State.read8]

@[simp] theorem relabel_write8 (a : Word) (v : Byte) : (s.relabel d b).write8 a v = (s.write8 a v).relabel d b := by
  simp [State.write8]

@[simp] theorem relabel_push16 (v : Word) : (s.relabel d b).push16 v = (s.push16 v).relabel d b := by
  simp [State.push16, State.write16]

@[simp] theorem relabel_pop16 : (s.relabel d b).pop16 = (s.pop16.1, s.pop16.2.relabel d b) := by
  simp [State.pop16, State.read16]

@[simp] theorem relabel_readPlace (p : Place) :
    (s.relabel d b).readPlace p = ((s.readPlace p).1, (s.readPlace p).2.relabel d b) := by
  cases p <;> simp [State.readPlace]

@[simp] theorem relabel_readSource (src : Source) :
    (s.relabel d b).readSource src = ((s.readSource src).1, (s.readSource src).2.relabel d b) := by
  cases src <;> simp [State.readSource]

@[simp] theorem relabel_writePlace (p : Place) (v : Byte) :
    (s.relabel d b).writePlace p v = (s.writePlace p v).relabel d b := by
  cases p <;> simp [State.writePlace]

/-! ## The meanings -/

/-- A conditional transfer takes the branch that it takes. -/
theorem relabel_ite (c : Bool) (t u : State) :
    (if c then t.relabel d b else u.relabel d b) = (if c then t else u).relabel d b := by cases c <;> rfl

@[simp] theorem relabel_loadRegReg (dst src : Reg8) : loadRegReg dst src (s.relabel d b) = (loadRegReg dst src s).relabel d b :=
  by simp [loadRegReg]
@[simp] theorem relabel_loadRegMem (dst : Reg8) : loadRegMem dst (s.relabel d b) = (loadRegMem dst s).relabel d b :=
  by simp [loadRegMem]
@[simp] theorem relabel_loadMemReg (r : Reg8) : loadMemReg r (s.relabel d b) = (loadMemReg r s).relabel d b :=
  by simp [loadMemReg]
@[simp] theorem relabel_loadRegImm (dst : Reg8) (v : Byte) : loadRegImm dst v (s.relabel d b) = (loadRegImm dst v s).relabel d b :=
  by simp [loadRegImm]
@[simp] theorem relabel_loadMemImm (v : Byte) : loadMemImm v (s.relabel d b) = (loadMemImm v s).relabel d b :=
  by simp [loadMemImm]
@[simp] theorem relabel_loadAFrom (a : Word) : loadAFrom a (s.relabel d b) = (loadAFrom a s).relabel d b :=
  by simp [loadAFrom]
@[simp] theorem relabel_storeATo (a : Word) : storeATo a (s.relabel d b) = (storeATo a s).relabel d b :=
  by simp [storeATo]
@[simp] theorem relabel_loadAStep (x : HlStep) : loadAStep x (s.relabel d b) = (loadAStep x s).relabel d b :=
  by simp [loadAStep]
@[simp] theorem relabel_storeAStep (x : HlStep) : storeAStep x (s.relabel d b) = (storeAStep x s).relabel d b :=
  by simp [storeAStep]
@[simp] theorem relabel_loadPairImm (p : Pair) (w : Word) : loadPairImm p w (s.relabel d b) = (loadPairImm p w s).relabel d b :=
  by simp [loadPairImm]
@[simp] theorem relabel_storeSp (a : Word) : storeSp a (s.relabel d b) = (storeSp a s).relabel d b := by simp [storeSp, State.write16]
@[simp] theorem relabel_loadSpHl : loadSpHl (s.relabel d b) = (loadSpHl s).relabel d b := by simp [loadSpHl]
@[simp] theorem relabel_pushPair (p : StackPair) : pushPair p (s.relabel d b) = (pushPair p s).relabel d b :=
  by simp [pushPair]
@[simp] theorem relabel_popPair (p : StackPair) : popPair p (s.relabel d b) = (popPair p s).relabel d b :=
  by simp [popPair]
@[simp] theorem relabel_aluFrom (op : AluOp) (src : Source) : aluFrom op src (s.relabel d b) = (aluFrom op src s).relabel d b :=
  by simp [aluFrom]
@[simp] theorem relabel_incPlace (p : Place) : incPlace p (s.relabel d b) = (incPlace p s).relabel d b :=
  by simp [incPlace]
@[simp] theorem relabel_decPlace (p : Place) : decPlace p (s.relabel d b) = (decPlace p s).relabel d b :=
  by simp [decPlace]
@[simp] theorem relabel_decimalAdjust : decimalAdjust (s.relabel d b) = (decimalAdjust s).relabel d b :=
  by simp [decimalAdjust]
@[simp] theorem relabel_complementA : complementA (s.relabel d b) = (complementA s).relabel d b := by simp [complementA]
@[simp] theorem relabel_setCarry : setCarry (s.relabel d b) = (setCarry s).relabel d b := by simp [setCarry]
@[simp] theorem relabel_complementCarry : complementCarry (s.relabel d b) = (complementCarry s).relabel d b :=
  by simp [complementCarry]
@[simp] theorem relabel_incPair (p : Pair) : incPair p (s.relabel d b) = (incPair p s).relabel d b := by simp [incPair]
@[simp] theorem relabel_decPair (p : Pair) : decPair p (s.relabel d b) = (decPair p s).relabel d b := by simp [decPair]
@[simp] theorem relabel_addHlPair (p : Pair) : addHlPair p (s.relabel d b) = (addHlPair p s).relabel d b :=
  by simp [addHlPair]
@[simp] theorem relabel_addSp (e : Byte) : addSp e (s.relabel d b) = (addSp e s).relabel d b := by simp [addSp]
@[simp] theorem relabel_loadHlSp (e : Byte) : loadHlSp e (s.relabel d b) = (loadHlSp e s).relabel d b :=
  by simp [loadHlSp]
@[simp] theorem relabel_rotateA (o : ShiftOp) : rotateA o (s.relabel d b) = (rotateA o s).relabel d b :=
  by simp [rotateA]
@[simp] theorem relabel_shiftPlace (o : ShiftOp) (p : Place) : shiftPlace o p (s.relabel d b) = (shiftPlace o p s).relabel d b :=
  by simp [shiftPlace]
@[simp] theorem relabel_testBit (n : Fin 8) (p : Place) : testBit n p (s.relabel d b) = (testBit n p s).relabel d b :=
  by simp [testBit]
@[simp] theorem relabel_resetBit (n : Fin 8) (p : Place) : resetBit n p (s.relabel d b) = (resetBit n p s).relabel d b :=
  by simp [resetBit]
@[simp] theorem relabel_setBit (n : Fin 8) (p : Place) : setBit n p (s.relabel d b) = (setBit n p s).relabel d b :=
  by simp [setBit]
@[simp] theorem relabel_jumpTo (a : Word) : jumpTo a (s.relabel d b) = (jumpTo a s).relabel d b := by simp [jumpTo]
@[simp] theorem relabel_jumpRel (e : Byte) : jumpRel e (s.relabel d b) = (jumpRel e s).relabel d b := by simp [jumpRel]
@[simp] theorem relabel_callTo (a : Word) : callTo a (s.relabel d b) = (callTo a s).relabel d b := by simp [callTo]
@[simp] theorem relabel_returnTo : returnTo (s.relabel d b) = (returnTo s).relabel d b := by simp [returnTo]
@[simp] theorem relabel_jumpIf (cc : Cond) (a : Word) : jumpIf cc a (s.relabel d b) = (jumpIf cc a s).relabel d b := by
  simp [jumpIf, relabel_ite]
@[simp] theorem relabel_jumpRelIf (cc : Cond) (e : Byte) : jumpRelIf cc e (s.relabel d b) = (jumpRelIf cc e s).relabel d b := by
  simp [jumpRelIf, relabel_ite]
@[simp] theorem relabel_callIf (cc : Cond) (a : Word) : callIf cc a (s.relabel d b) = (callIf cc a s).relabel d b := by
  simp [callIf, relabel_ite]
@[simp] theorem relabel_returnIf (cc : Cond) : returnIf cc (s.relabel d b) = (returnIf cc s).relabel d b := by
  simp [returnIf, relabel_ite]
@[simp] theorem relabel_enterHalt : enterHalt (s.relabel d b) = (enterHalt s).relabel d b := by simp [enterHalt]
@[simp] theorem relabel_enterStop : enterStop (s.relabel d b) = (enterStop s).relabel d b := by simp [enterStop]
@[simp] theorem relabel_scheduleEi : scheduleEi (s.relabel d b) = (scheduleEi s).relabel d b := by simp [scheduleEi]
@[simp] theorem relabel_scheduleDi : scheduleDi (s.relabel d b) = (scheduleDi s).relabel d b := by simp [scheduleDi]
@[simp] theorem relabel_undefinedOpcode (op : Byte) : undefinedOpcode op (s.relabel d b) = (undefinedOpcode op s).relabel d b :=
  by simp [undefinedOpcode]

@[simp] theorem relabel_takenCost (cc : Cond) (m n : Nat) : takenCost cc m n (s.relabel d b) = takenCost cc m n s := rfl

/-- A result with more events before its state's log, and another budget. -/
def relabelled (r : Result) : Result := mapNext (fun t => t.relabel d b) r

theorem relabel_finish (n : Nat) : finish n (s.relabel d b) = relabelled d b (finish n s) := rfl

theorem relabel_runCb (cb : Byte) : runCb cb (s.relabel d b) = relabelled d b (runCb cb s) := by
  unfold runCb
  simp only
  split <;> simp [relabel_finish]

/-- Every meaning is blind to the log and to the budget. -/
theorem relabel_exec (i : Instr) : exec i (s.relabel d b) = relabelled d b (exec i s) := by
  cases i
  case prefixCb cb => exact relabel_runCb s d b cb
  case reti => exact congrArg (finish _) (show ((returnTo (s.relabel d b)).setIme true) = _ by simp; rfl)
  all_goals
    refine (show exec _ (s.relabel d b) = finish _ _ from rfl).trans
      ((congrArg (finish _) ?_).trans (relabel_finish _ d b _))
    simp

/-! ## The step -/

@[simp] theorem relabel_fetch8 : (s.relabel d b).fetch8 = (s.fetch8.1, s.fetch8.2.relabel d b) := by simp [State.fetch8]

@[simp] theorem relabel_fetch16 : (s.relabel d b).fetch16 = (s.fetch16.1, s.fetch16.2.relabel d b) := by
  simp [State.fetch16]

@[simp] theorem relabel_fetchInstr : (s.relabel d b).fetchInstr = (s.fetchInstr.1, s.fetchInstr.2.relabel d b) := by
  unfold State.fetchInstr
  simp only [relabel_fetch8]
  split <;> simp

@[simp] theorem relabel_service (i : IrqSource) : (s.relabel d b).service i = (s.service i).relabel d b := by
  simp only [State.service, relabel_clearIrq, relabel_setIme, relabel_push16, relabel_setPc, relabel_setCycles,
    relabel_setHalted, relabel_cpu]
  rfl

@[simp] theorem relabel_haltWake : (s.relabel d b).haltWake = s.haltWake.relabel d b := by simp [State.haltWake]

@[simp] theorem relabel_stoppedStep : (s.relabel d b).stoppedStep = s.stoppedStep.relabel d b := by
  unfold State.stoppedStep
  cases h : s.nextTriggered.isSome <;> simp [h]

theorem relabel_stepBranch : (s.relabel d b).stepBranch exec = relabelled d b (s.stepBranch exec) := by
  unfold State.stepBranch State.executeInstruction
  simp only [relabel_cpu, relabel_nextTriggered, relabel_fetchInstr, relabel_exec, relabel_service, relabel_haltWake,
    relabel_stoppedStep, relabelled]
  cases s.nextTriggered <;> simp only <;> repeat' split
  all_goals rfl

theorem relabel_renderLine : (s.relabel d b).renderLine = s.renderLine.relabel d b := by
  have hr : ∀ ly old, (s.relabel d b).renderedRow ly old = s.renderedRow ly old := fun _ _ => rfl
  by_cases h : s.ppu.ly.toNat < Config.screenHeight
  · simp [State.renderLine, h, hr]
    rfl
  · simp [State.renderLine, h]

theorem relabel_ppuTransition : (s.relabel d b).ppuTransition = s.ppuTransition.relabel d b := by
  cases hm : s.ppu.mode with
  | hBlank =>
    have e : ∀ t : State, t.ppu.mode = .hBlank → t.ppuTransition =
        if (leaveHBlank t.ppu).ly = 144 then ({ t with ppu := leaveHBlank t.ppu } : State).raiseIrq .vBlank
        else { t with ppu := leaveHBlank t.ppu } := fun t ht => by unfold State.ppuTransition; rw [ht]
    by_cases h : (leaveHBlank s.ppu).ly = 144
    · rw [e s hm, e (s.relabel d b) hm, if_pos h]
      exact if_pos h
    · rw [e s hm, e (s.relabel d b) hm, if_neg h]
      exact if_neg h
  | transfer =>
    have e : ∀ t : State, t.ppu.mode = .transfer → t.ppuTransition =
        { t.renderLine with ppu := { t.renderLine.ppu with mode := .hBlank } } :=
      fun t ht => by unfold State.ppuTransition; rw [ht]
    rw [e s hm, e (s.relabel d b) hm, relabel_renderLine]
    rfl
  | oamSearch =>
    have e : ∀ t : State, t.ppu.mode = .oamSearch → t.ppuTransition = { t with ppu := { t.ppu with mode := .transfer } } :=
      fun t ht => by unfold State.ppuTransition; rw [ht]
    rw [e s hm, e (s.relabel d b) hm]
    rfl
  | vBlank =>
    have e : ∀ t : State, t.ppu.mode = .vBlank → t.ppuTransition = { t with ppu := leaveVBlankLine t.ppu } :=
      fun t ht => by unfold State.ppuTransition; rw [ht]
    rw [e s hm, e (s.relabel d b) hm]
    rfl

theorem relabel_ppuRun (n : Nat) : (s.relabel d b).ppuRun n = (s.ppuRun n).relabel d b := by
  induction n generalizing s with
  | zero => rfl
  | succ n ih =>
    by_cases h : s.ppu.mode.period ≤ s.ppu.clock
    · unfold State.ppuRun
      rw [if_pos h, ← ih, ← relabel_ppuTransition]
      exact if_pos h
    · unfold State.ppuRun
      rw [if_neg h]
      exact if_neg h

@[simp] theorem relabel_ppuUpdate (c : Nat) : (s.relabel d b).ppuUpdate c = (s.ppuUpdate c).relabel d b := by
  have h : (s.relabel d b).ppuCompare = s.ppuCompare.relabel d b := by
    unfold State.ppuCompare
    cases h : s.ppu.ly == s.ppu.lyc <;> simp [h] <;> rfl
  unfold State.ppuUpdate
  rw [h, ← relabel_ppuRun]
  rfl

theorem relabel_timaTicks (n : Nat) : (s.relabel d b).timaTicks n = (s.timaTicks n).relabel d b := by
  induction n generalizing s with
  | zero => rfl
  | succ n ih =>
    have h : (s.relabel d b).timaTick = s.timaTick.relabel d b := by
      by_cases h : s.timer.tima = 0xFF
      · unfold State.timaTick
        rw [if_pos h]
        exact if_pos h
      · unfold State.timaTick
        rw [if_neg h]
        exact if_neg h
    unfold State.timaTicks
    rw [h, ih]

theorem relabel_updateTima (c : Nat) : (s.relabel d b).updateTima c = (s.updateTima c).relabel d b := by
  by_cases h : timerEnabled s.timer = true
  · unfold State.updateTima
    rw [if_pos h, ← relabel_timaTicks]
    exact if_pos h
  · unfold State.updateTima
    rw [if_neg h]
    exact if_neg h

@[simp] theorem relabel_timerUpdate (c : Nat) : (s.relabel d b).timerUpdate c = (s.timerUpdate c).relabel d b :=
  relabel_updateTima { s with timer := updateDiv c s.timer } d b c

theorem relabel_dmaByte (i : Nat) : (s.relabel d b).dmaByte i = (s.dmaByte i).relabel d b := by simp [State.dmaByte]

theorem relabel_dmaCopy : (s.relabel d b).dmaCopy = s.dmaCopy.relabel d b := by
  unfold State.dmaCopy
  generalize List.range 160 = l
  induction l generalizing s with
  | nil => rfl
  | cons i l ih => rw [List.foldl_cons, List.foldl_cons, relabel_dmaByte, ih]

@[simp] theorem relabel_dmaUpdate (c : Nat) : (s.relabel d b).dmaUpdate c = (s.dmaUpdate c).relabel d b := by
  cases h : s.dma.pending
  · simp [State.dmaUpdate, h]
  · by_cases g : dmaCycles ≤ s.dma.counter + c
    · simp [State.dmaUpdate, h, g, relabel_dmaCopy]
      rfl
    · simp [State.dmaUpdate, h, g]
      rfl

@[simp] theorem relabel_deviceUpdate (c : Nat) : (s.relabel d b).deviceUpdate c = (s.deviceUpdate c).relabel d b := by
  simp [State.deviceUpdate]

/-- A step is blind to the log and to the budget. -/
theorem relabel_step : step (s.relabel d b) = relabelled d b (step s) := by
  unfold step State.systemStep State.cpuStep
  rw [relabel_stepBranch]
  cases s.stepBranch exec with
  | next t => exact congrArg Host.Outcome.next ((relabel_deviceUpdate t.tickIme d b t.cycles))
  | fault r => rfl
  | refused r => rfl

end Sys2Proof.Machine
end

