-- ==== Sys2Proof/Tests/Slice0.lean ====
section
/-! SUPPORT. Tests and witnesses: the ill-formed term, every encoding as a written word, one-step vectors of
95_test_vectors.md, device vectors, and for each statement with hypotheses a state that meets them. -/

namespace Sys2Proof.Tests

open Sys2Proof.Machine

/-! ## Well-formedness -/

/-- The one check: the CB escape is no instruction by itself, whatever its byte (30_encoding.md R127). -/
theorem test_prefixCb_refused : (Instr.prefixCb 0x00).WellFormed = false ∧ (Instr.prefixCb 0xFF).WellFormed = false := by decide

/-- Every operand value is allowed. -/
theorem test_stop_wellFormed : (Instr.stop 0xFF).WellFormed = true ∧ (Instr.jpA16 0xFFFF).WellFormed = true := by decide

/-! ## Decoding: each row's word written out from the `encoding` column of spec/opcode_table.json, its immediate bytes 0x99
or 0x34 0x12. The row 0xCB is the escape: its words are those of the CB page. -/

theorem test_decode_base_0x : [decode [0x00], decode [0x01, 0x34, 0x12], decode [0x02], decode [0x03], decode [0x04],
      decode [0x05], decode [0x06, 0x99], decode [0x07], decode [0x08, 0x34, 0x12], decode [0x09], decode [0x0A],
      decode [0x0B], decode [0x0C], decode [0x0D], decode [0x0E, 0x99], decode [0x0F]] = [
      .ok (.nop, []), .ok (.ldBC_d16 0x1234, []), .ok (.ldMemBC_A, []), .ok (.incBC, []), .ok (.incB, []),
      .ok (.decB, []), .ok (.ldB_d8 0x99, []), .ok (.rlca, []), .ok (.ldMemA16_SP 0x1234, []), .ok (.addHL_BC, []),
      .ok (.ldA_MemBC, []), .ok (.decBC, []), .ok (.incC, []), .ok (.decC, []), .ok (.ldC_d8 0x99, []),
      .ok (.rrca, [])] := rfl

theorem test_decode_base_1x : [decode [0x10, 0x99], decode [0x11, 0x34, 0x12], decode [0x12], decode [0x13],
      decode [0x14], decode [0x15], decode [0x16, 0x99], decode [0x17], decode [0x18, 0x99], decode [0x19],
      decode [0x1A], decode [0x1B], decode [0x1C], decode [0x1D], decode [0x1E, 0x99], decode [0x1F]] = [
      .ok (.stop 0x99, []), .ok (.ldDE_d16 0x1234, []), .ok (.ldMemDE_A, []), .ok (.incDE, []), .ok (.incD, []),
      .ok (.decD, []), .ok (.ldD_d8 0x99, []), .ok (.rla, []), .ok (.jrE8 0x99, []), .ok (.addHL_DE, []),
      .ok (.ldA_MemDE, []), .ok (.decDE, []), .ok (.incE, []), .ok (.decE, []), .ok (.ldE_d8 0x99, []),
      .ok (.rra, [])] := rfl

theorem test_decode_base_2x : [decode [0x20, 0x99], decode [0x21, 0x34, 0x12], decode [0x22], decode [0x23],
      decode [0x24], decode [0x25], decode [0x26, 0x99], decode [0x27], decode [0x28, 0x99], decode [0x29],
      decode [0x2A], decode [0x2B], decode [0x2C], decode [0x2D], decode [0x2E, 0x99], decode [0x2F]] = [
      .ok (.jrNZ_e8 0x99, []), .ok (.ldHL_d16 0x1234, []), .ok (.ldMemHLI_A, []), .ok (.incHL, []), .ok (.incH, []),
      .ok (.decH, []), .ok (.ldH_d8 0x99, []), .ok (.daa, []), .ok (.jrZ_e8 0x99, []), .ok (.addHL_HL, []),
      .ok (.ldA_MemHLI, []), .ok (.decHL, []), .ok (.incL, []), .ok (.decL, []), .ok (.ldL_d8 0x99, []),
      .ok (.cpl, [])] := rfl

theorem test_decode_base_3x : [decode [0x30, 0x99], decode [0x31, 0x34, 0x12], decode [0x32], decode [0x33],
      decode [0x34], decode [0x35], decode [0x36, 0x99], decode [0x37], decode [0x38, 0x99], decode [0x39],
      decode [0x3A], decode [0x3B], decode [0x3C], decode [0x3D], decode [0x3E, 0x99], decode [0x3F]] = [
      .ok (.jrNC_e8 0x99, []), .ok (.ldSP_d16 0x1234, []), .ok (.ldMemHLD_A, []), .ok (.incSP, []),
      .ok (.incMemHL, []), .ok (.decMemHL, []), .ok (.ldMemHL_d8 0x99, []), .ok (.scf, []), .ok (.jrC_e8 0x99, []),
      .ok (.addHL_SP, []), .ok (.ldA_MemHLD, []), .ok (.decSP, []), .ok (.incA, []), .ok (.decA, []),
      .ok (.ldA_d8 0x99, []), .ok (.ccf, [])] := rfl

theorem test_decode_base_4x : [decode [0x40], decode [0x41], decode [0x42], decode [0x43], decode [0x44],
      decode [0x45], decode [0x46], decode [0x47], decode [0x48], decode [0x49], decode [0x4A], decode [0x4B],
      decode [0x4C], decode [0x4D], decode [0x4E], decode [0x4F]] = [
      .ok (.ldB_B, []), .ok (.ldB_C, []), .ok (.ldB_D, []), .ok (.ldB_E, []), .ok (.ldB_H, []), .ok (.ldB_L, []),
      .ok (.ldB_MemHL, []), .ok (.ldB_A, []), .ok (.ldC_B, []), .ok (.ldC_C, []), .ok (.ldC_D, []), .ok (.ldC_E, []),
      .ok (.ldC_H, []), .ok (.ldC_L, []), .ok (.ldC_MemHL, []), .ok (.ldC_A, [])] := rfl

theorem test_decode_base_5x : [decode [0x50], decode [0x51], decode [0x52], decode [0x53], decode [0x54],
      decode [0x55], decode [0x56], decode [0x57], decode [0x58], decode [0x59], decode [0x5A], decode [0x5B],
      decode [0x5C], decode [0x5D], decode [0x5E], decode [0x5F]] = [
      .ok (.ldD_B, []), .ok (.ldD_C, []), .ok (.ldD_D, []), .ok (.ldD_E, []), .ok (.ldD_H, []), .ok (.ldD_L, []),
      .ok (.ldD_MemHL, []), .ok (.ldD_A, []), .ok (.ldE_B, []), .ok (.ldE_C, []), .ok (.ldE_D, []), .ok (.ldE_E, []),
      .ok (.ldE_H, []), .ok (.ldE_L, []), .ok (.ldE_MemHL, []), .ok (.ldE_A, [])] := rfl

theorem test_decode_base_6x : [decode [0x60], decode [0x61], decode [0x62], decode [0x63], decode [0x64],
      decode [0x65], decode [0x66], decode [0x67], decode [0x68], decode [0x69], decode [0x6A], decode [0x6B],
      decode [0x6C], decode [0x6D], decode [0x6E], decode [0x6F]] = [
      .ok (.ldH_B, []), .ok (.ldH_C, []), .ok (.ldH_D, []), .ok (.ldH_E, []), .ok (.ldH_H, []), .ok (.ldH_L, []),
      .ok (.ldH_MemHL, []), .ok (.ldH_A, []), .ok (.ldL_B, []), .ok (.ldL_C, []), .ok (.ldL_D, []), .ok (.ldL_E, []),
      .ok (.ldL_H, []), .ok (.ldL_L, []), .ok (.ldL_MemHL, []), .ok (.ldL_A, [])] := rfl

theorem test_decode_base_7x : [decode [0x70], decode [0x71], decode [0x72], decode [0x73], decode [0x74],
      decode [0x75], decode [0x76], decode [0x77], decode [0x78], decode [0x79], decode [0x7A], decode [0x7B],
      decode [0x7C], decode [0x7D], decode [0x7E], decode [0x7F]] = [
      .ok (.ldMemHL_B, []), .ok (.ldMemHL_C, []), .ok (.ldMemHL_D, []), .ok (.ldMemHL_E, []), .ok (.ldMemHL_H, []),
      .ok (.ldMemHL_L, []), .ok (.halt, []), .ok (.ldMemHL_A, []), .ok (.ldA_B, []), .ok (.ldA_C, []),
      .ok (.ldA_D, []), .ok (.ldA_E, []), .ok (.ldA_H, []), .ok (.ldA_L, []), .ok (.ldA_MemHL, []),
      .ok (.ldA_A, [])] := rfl

theorem test_decode_base_8x : [decode [0x80], decode [0x81], decode [0x82], decode [0x83], decode [0x84],
      decode [0x85], decode [0x86], decode [0x87], decode [0x88], decode [0x89], decode [0x8A], decode [0x8B],
      decode [0x8C], decode [0x8D], decode [0x8E], decode [0x8F]] = [
      .ok (.addA_B, []), .ok (.addA_C, []), .ok (.addA_D, []), .ok (.addA_E, []), .ok (.addA_H, []),
      .ok (.addA_L, []), .ok (.addA_MemHL, []), .ok (.addA_A, []), .ok (.adcA_B, []), .ok (.adcA_C, []),
      .ok (.adcA_D, []), .ok (.adcA_E, []), .ok (.adcA_H, []), .ok (.adcA_L, []), .ok (.adcA_MemHL, []),
      .ok (.adcA_A, [])] := rfl

theorem test_decode_base_9x : [decode [0x90], decode [0x91], decode [0x92], decode [0x93], decode [0x94],
      decode [0x95], decode [0x96], decode [0x97], decode [0x98], decode [0x99], decode [0x9A], decode [0x9B],
      decode [0x9C], decode [0x9D], decode [0x9E], decode [0x9F]] = [
      .ok (.subB, []), .ok (.subC, []), .ok (.subD, []), .ok (.subE, []), .ok (.subH, []), .ok (.subL, []),
      .ok (.subMemHL, []), .ok (.subA, []), .ok (.sbcA_B, []), .ok (.sbcA_C, []), .ok (.sbcA_D, []),
      .ok (.sbcA_E, []), .ok (.sbcA_H, []), .ok (.sbcA_L, []), .ok (.sbcA_MemHL, []), .ok (.sbcA_A, [])] := rfl

theorem test_decode_base_Ax : [decode [0xA0], decode [0xA1], decode [0xA2], decode [0xA3], decode [0xA4],
      decode [0xA5], decode [0xA6], decode [0xA7], decode [0xA8], decode [0xA9], decode [0xAA], decode [0xAB],
      decode [0xAC], decode [0xAD], decode [0xAE], decode [0xAF]] = [
      .ok (.andB, []), .ok (.andC, []), .ok (.andD, []), .ok (.andE, []), .ok (.andH, []), .ok (.andL, []),
      .ok (.andMemHL, []), .ok (.andA, []), .ok (.xorB, []), .ok (.xorC, []), .ok (.xorD, []), .ok (.xorE, []),
      .ok (.xorH, []), .ok (.xorL, []), .ok (.xorMemHL, []), .ok (.xorA, [])] := rfl

theorem test_decode_base_Bx : [decode [0xB0], decode [0xB1], decode [0xB2], decode [0xB3], decode [0xB4],
      decode [0xB5], decode [0xB6], decode [0xB7], decode [0xB8], decode [0xB9], decode [0xBA], decode [0xBB],
      decode [0xBC], decode [0xBD], decode [0xBE], decode [0xBF]] = [
      .ok (.orB, []), .ok (.orC, []), .ok (.orD, []), .ok (.orE, []), .ok (.orH, []), .ok (.orL, []),
      .ok (.orMemHL, []), .ok (.orA, []), .ok (.cpB, []), .ok (.cpC, []), .ok (.cpD, []), .ok (.cpE, []),
      .ok (.cpH, []), .ok (.cpL, []), .ok (.cpMemHL, []), .ok (.cpA, [])] := rfl

theorem test_decode_base_Cx : [decode [0xC0], decode [0xC1], decode [0xC2, 0x34, 0x12], decode [0xC3, 0x34, 0x12],
      decode [0xC4, 0x34, 0x12], decode [0xC5], decode [0xC6, 0x99], decode [0xC7], decode [0xC8], decode [0xC9],
      decode [0xCA, 0x34, 0x12], decode [0xCC, 0x34, 0x12], decode [0xCD, 0x34, 0x12], decode [0xCE, 0x99],
      decode [0xCF]] = [
      .ok (.retNZ, []), .ok (.popBC, []), .ok (.jpNZ_a16 0x1234, []), .ok (.jpA16 0x1234, []),
      .ok (.callNZ_a16 0x1234, []), .ok (.pushBC, []), .ok (.addA_d8 0x99, []), .ok (.rst00H, []), .ok (.retZ, []),
      .ok (.ret, []), .ok (.jpZ_a16 0x1234, []), .ok (.callZ_a16 0x1234, []), .ok (.callA16 0x1234, []),
      .ok (.adcA_d8 0x99, []), .ok (.rst08H, [])] := rfl

theorem test_decode_base_Dx : [decode [0xD0], decode [0xD1], decode [0xD2, 0x34, 0x12], decode [0xD3],
      decode [0xD4, 0x34, 0x12], decode [0xD5], decode [0xD6, 0x99], decode [0xD7], decode [0xD8], decode [0xD9],
      decode [0xDA, 0x34, 0x12], decode [0xDB], decode [0xDC, 0x34, 0x12], decode [0xDD], decode [0xDE, 0x99],
      decode [0xDF]] = [
      .ok (.retNC, []), .ok (.popDE, []), .ok (.jpNC_a16 0x1234, []), .ok (.undefD3, []),
      .ok (.callNC_a16 0x1234, []), .ok (.pushDE, []), .ok (.subD8 0x99, []), .ok (.rst10H, []), .ok (.retC, []),
      .ok (.reti, []), .ok (.jpC_a16 0x1234, []), .ok (.undefDB, []), .ok (.callC_a16 0x1234, []),
      .ok (.undefDD, []), .ok (.sbcA_d8 0x99, []), .ok (.rst18H, [])] := rfl

theorem test_decode_base_Ex : [decode [0xE0, 0x99], decode [0xE1], decode [0xE2], decode [0xE3], decode [0xE4],
      decode [0xE5], decode [0xE6, 0x99], decode [0xE7], decode [0xE8, 0x99], decode [0xE9],
      decode [0xEA, 0x34, 0x12], decode [0xEB], decode [0xEC], decode [0xED], decode [0xEE, 0x99], decode [0xEF]] = [
      .ok (.ldhMemA8_A 0x99, []), .ok (.popHL, []), .ok (.ldMemC_A, []), .ok (.undefE3, []), .ok (.undefE4, []),
      .ok (.pushHL, []), .ok (.andD8 0x99, []), .ok (.rst20H, []), .ok (.addSP_e8 0x99, []), .ok (.jpHL, []),
      .ok (.ldMemA16_A 0x1234, []), .ok (.undefEB, []), .ok (.undefEC, []), .ok (.undefED, []),
      .ok (.xorD8 0x99, []), .ok (.rst28H, [])] := rfl

theorem test_decode_base_Fx : [decode [0xF0, 0x99], decode [0xF1], decode [0xF2], decode [0xF3], decode [0xF4],
      decode [0xF5], decode [0xF6, 0x99], decode [0xF7], decode [0xF8, 0x99], decode [0xF9],
      decode [0xFA, 0x34, 0x12], decode [0xFB], decode [0xFC], decode [0xFD], decode [0xFE, 0x99], decode [0xFF]] = [
      .ok (.ldhA_MemA8 0x99, []), .ok (.popAF, []), .ok (.ldA_MemC, []), .ok (.di, []), .ok (.undefF4, []),
      .ok (.pushAF, []), .ok (.orD8 0x99, []), .ok (.rst30H, []), .ok (.ldHL_SPe8 0x99, []), .ok (.ldSP_HL, []),
      .ok (.ldA_MemA16 0x1234, []), .ok (.ei, []), .ok (.undefFC, []), .ok (.undefFD, []), .ok (.cpD8 0x99, []),
      .ok (.rst38H, [])] := rfl

theorem test_decode_cb_0x : [decode [0xCB, 0x00], decode [0xCB, 0x01], decode [0xCB, 0x02], decode [0xCB, 0x03],
      decode [0xCB, 0x04], decode [0xCB, 0x05], decode [0xCB, 0x06], decode [0xCB, 0x07], decode [0xCB, 0x08],
      decode [0xCB, 0x09], decode [0xCB, 0x0A], decode [0xCB, 0x0B], decode [0xCB, 0x0C], decode [0xCB, 0x0D],
      decode [0xCB, 0x0E], decode [0xCB, 0x0F]] = [
      .ok (.rlcB, []), .ok (.rlcC, []), .ok (.rlcD, []), .ok (.rlcE, []), .ok (.rlcH, []), .ok (.rlcL, []),
      .ok (.rlcMemHL, []), .ok (.rlcA, []), .ok (.rrcB, []), .ok (.rrcC, []), .ok (.rrcD, []), .ok (.rrcE, []),
      .ok (.rrcH, []), .ok (.rrcL, []), .ok (.rrcMemHL, []), .ok (.rrcA, [])] := rfl

theorem test_decode_cb_1x : [decode [0xCB, 0x10], decode [0xCB, 0x11], decode [0xCB, 0x12], decode [0xCB, 0x13],
      decode [0xCB, 0x14], decode [0xCB, 0x15], decode [0xCB, 0x16], decode [0xCB, 0x17], decode [0xCB, 0x18],
      decode [0xCB, 0x19], decode [0xCB, 0x1A], decode [0xCB, 0x1B], decode [0xCB, 0x1C], decode [0xCB, 0x1D],
      decode [0xCB, 0x1E], decode [0xCB, 0x1F]] = [
      .ok (.rlB, []), .ok (.rlC, []), .ok (.rlD, []), .ok (.rlE, []), .ok (.rlH, []), .ok (.rlL, []),
      .ok (.rlMemHL, []), .ok (.rlA, []), .ok (.rrB, []), .ok (.rrC, []), .ok (.rrD, []), .ok (.rrE, []),
      .ok (.rrH, []), .ok (.rrL, []), .ok (.rrMemHL, []), .ok (.rrA, [])] := rfl

theorem test_decode_cb_2x : [decode [0xCB, 0x20], decode [0xCB, 0x21], decode [0xCB, 0x22], decode [0xCB, 0x23],
      decode [0xCB, 0x24], decode [0xCB, 0x25], decode [0xCB, 0x26], decode [0xCB, 0x27], decode [0xCB, 0x28],
      decode [0xCB, 0x29], decode [0xCB, 0x2A], decode [0xCB, 0x2B], decode [0xCB, 0x2C], decode [0xCB, 0x2D],
      decode [0xCB, 0x2E], decode [0xCB, 0x2F]] = [
      .ok (.slaB, []), .ok (.slaC, []), .ok (.slaD, []), .ok (.slaE, []), .ok (.slaH, []), .ok (.slaL, []),
      .ok (.slaMemHL, []), .ok (.slaA, []), .ok (.sraB, []), .ok (.sraC, []), .ok (.sraD, []), .ok (.sraE, []),
      .ok (.sraH, []), .ok (.sraL, []), .ok (.sraMemHL, []), .ok (.sraA, [])] := rfl

theorem test_decode_cb_3x : [decode [0xCB, 0x30], decode [0xCB, 0x31], decode [0xCB, 0x32], decode [0xCB, 0x33],
      decode [0xCB, 0x34], decode [0xCB, 0x35], decode [0xCB, 0x36], decode [0xCB, 0x37], decode [0xCB, 0x38],
      decode [0xCB, 0x39], decode [0xCB, 0x3A], decode [0xCB, 0x3B], decode [0xCB, 0x3C], decode [0xCB, 0x3D],
      decode [0xCB, 0x3E], decode [0xCB, 0x3F]] = [
      .ok (.swapB, []), .ok (.swapC, []), .ok (.swapD, []), .ok (.swapE, []), .ok (.swapH, []), .ok (.swapL, []),
      .ok (.swapMemHL, []), .ok (.swapA, []), .ok (.srlB, []), .ok (.srlC, []), .ok (.srlD, []), .ok (.srlE, []),
      .ok (.srlH, []), .ok (.srlL, []), .ok (.srlMemHL, []), .ok (.srlA, [])] := rfl

theorem test_decode_cb_4x : [decode [0xCB, 0x40], decode [0xCB, 0x41], decode [0xCB, 0x42], decode [0xCB, 0x43],
      decode [0xCB, 0x44], decode [0xCB, 0x45], decode [0xCB, 0x46], decode [0xCB, 0x47], decode [0xCB, 0x48],
      decode [0xCB, 0x49], decode [0xCB, 0x4A], decode [0xCB, 0x4B], decode [0xCB, 0x4C], decode [0xCB, 0x4D],
      decode [0xCB, 0x4E], decode [0xCB, 0x4F]] = [
      .ok (.bit0_B, []), .ok (.bit0_C, []), .ok (.bit0_D, []), .ok (.bit0_E, []), .ok (.bit0_H, []),
      .ok (.bit0_L, []), .ok (.bit0_MemHL, []), .ok (.bit0_A, []), .ok (.bit1_B, []), .ok (.bit1_C, []),
      .ok (.bit1_D, []), .ok (.bit1_E, []), .ok (.bit1_H, []), .ok (.bit1_L, []), .ok (.bit1_MemHL, []),
      .ok (.bit1_A, [])] := rfl

theorem test_decode_cb_5x : [decode [0xCB, 0x50], decode [0xCB, 0x51], decode [0xCB, 0x52], decode [0xCB, 0x53],
      decode [0xCB, 0x54], decode [0xCB, 0x55], decode [0xCB, 0x56], decode [0xCB, 0x57], decode [0xCB, 0x58],
      decode [0xCB, 0x59], decode [0xCB, 0x5A], decode [0xCB, 0x5B], decode [0xCB, 0x5C], decode [0xCB, 0x5D],
      decode [0xCB, 0x5E], decode [0xCB, 0x5F]] = [
      .ok (.bit2_B, []), .ok (.bit2_C, []), .ok (.bit2_D, []), .ok (.bit2_E, []), .ok (.bit2_H, []),
      .ok (.bit2_L, []), .ok (.bit2_MemHL, []), .ok (.bit2_A, []), .ok (.bit3_B, []), .ok (.bit3_C, []),
      .ok (.bit3_D, []), .ok (.bit3_E, []), .ok (.bit3_H, []), .ok (.bit3_L, []), .ok (.bit3_MemHL, []),
      .ok (.bit3_A, [])] := rfl

theorem test_decode_cb_6x : [decode [0xCB, 0x60], decode [0xCB, 0x61], decode [0xCB, 0x62], decode [0xCB, 0x63],
      decode [0xCB, 0x64], decode [0xCB, 0x65], decode [0xCB, 0x66], decode [0xCB, 0x67], decode [0xCB, 0x68],
      decode [0xCB, 0x69], decode [0xCB, 0x6A], decode [0xCB, 0x6B], decode [0xCB, 0x6C], decode [0xCB, 0x6D],
      decode [0xCB, 0x6E], decode [0xCB, 0x6F]] = [
      .ok (.bit4_B, []), .ok (.bit4_C, []), .ok (.bit4_D, []), .ok (.bit4_E, []), .ok (.bit4_H, []),
      .ok (.bit4_L, []), .ok (.bit4_MemHL, []), .ok (.bit4_A, []), .ok (.bit5_B, []), .ok (.bit5_C, []),
      .ok (.bit5_D, []), .ok (.bit5_E, []), .ok (.bit5_H, []), .ok (.bit5_L, []), .ok (.bit5_MemHL, []),
      .ok (.bit5_A, [])] := rfl

theorem test_decode_cb_7x : [decode [0xCB, 0x70], decode [0xCB, 0x71], decode [0xCB, 0x72], decode [0xCB, 0x73],
      decode [0xCB, 0x74], decode [0xCB, 0x75], decode [0xCB, 0x76], decode [0xCB, 0x77], decode [0xCB, 0x78],
      decode [0xCB, 0x79], decode [0xCB, 0x7A], decode [0xCB, 0x7B], decode [0xCB, 0x7C], decode [0xCB, 0x7D],
      decode [0xCB, 0x7E], decode [0xCB, 0x7F]] = [
      .ok (.bit6_B, []), .ok (.bit6_C, []), .ok (.bit6_D, []), .ok (.bit6_E, []), .ok (.bit6_H, []),
      .ok (.bit6_L, []), .ok (.bit6_MemHL, []), .ok (.bit6_A, []), .ok (.bit7_B, []), .ok (.bit7_C, []),
      .ok (.bit7_D, []), .ok (.bit7_E, []), .ok (.bit7_H, []), .ok (.bit7_L, []), .ok (.bit7_MemHL, []),
      .ok (.bit7_A, [])] := rfl

theorem test_decode_cb_8x : [decode [0xCB, 0x80], decode [0xCB, 0x81], decode [0xCB, 0x82], decode [0xCB, 0x83],
      decode [0xCB, 0x84], decode [0xCB, 0x85], decode [0xCB, 0x86], decode [0xCB, 0x87], decode [0xCB, 0x88],
      decode [0xCB, 0x89], decode [0xCB, 0x8A], decode [0xCB, 0x8B], decode [0xCB, 0x8C], decode [0xCB, 0x8D],
      decode [0xCB, 0x8E], decode [0xCB, 0x8F]] = [
      .ok (.res0_B, []), .ok (.res0_C, []), .ok (.res0_D, []), .ok (.res0_E, []), .ok (.res0_H, []),
      .ok (.res0_L, []), .ok (.res0_MemHL, []), .ok (.res0_A, []), .ok (.res1_B, []), .ok (.res1_C, []),
      .ok (.res1_D, []), .ok (.res1_E, []), .ok (.res1_H, []), .ok (.res1_L, []), .ok (.res1_MemHL, []),
      .ok (.res1_A, [])] := rfl

theorem test_decode_cb_9x : [decode [0xCB, 0x90], decode [0xCB, 0x91], decode [0xCB, 0x92], decode [0xCB, 0x93],
      decode [0xCB, 0x94], decode [0xCB, 0x95], decode [0xCB, 0x96], decode [0xCB, 0x97], decode [0xCB, 0x98],
      decode [0xCB, 0x99], decode [0xCB, 0x9A], decode [0xCB, 0x9B], decode [0xCB, 0x9C], decode [0xCB, 0x9D],
      decode [0xCB, 0x9E], decode [0xCB, 0x9F]] = [
      .ok (.res2_B, []), .ok (.res2_C, []), .ok (.res2_D, []), .ok (.res2_E, []), .ok (.res2_H, []),
      .ok (.res2_L, []), .ok (.res2_MemHL, []), .ok (.res2_A, []), .ok (.res3_B, []), .ok (.res3_C, []),
      .ok (.res3_D, []), .ok (.res3_E, []), .ok (.res3_H, []), .ok (.res3_L, []), .ok (.res3_MemHL, []),
      .ok (.res3_A, [])] := rfl

theorem test_decode_cb_Ax : [decode [0xCB, 0xA0], decode [0xCB, 0xA1], decode [0xCB, 0xA2], decode [0xCB, 0xA3],
      decode [0xCB, 0xA4], decode [0xCB, 0xA5], decode [0xCB, 0xA6], decode [0xCB, 0xA7], decode [0xCB, 0xA8],
      decode [0xCB, 0xA9], decode [0xCB, 0xAA], decode [0xCB, 0xAB], decode [0xCB, 0xAC], decode [0xCB, 0xAD],
      decode [0xCB, 0xAE], decode [0xCB, 0xAF]] = [
      .ok (.res4_B, []), .ok (.res4_C, []), .ok (.res4_D, []), .ok (.res4_E, []), .ok (.res4_H, []),
      .ok (.res4_L, []), .ok (.res4_MemHL, []), .ok (.res4_A, []), .ok (.res5_B, []), .ok (.res5_C, []),
      .ok (.res5_D, []), .ok (.res5_E, []), .ok (.res5_H, []), .ok (.res5_L, []), .ok (.res5_MemHL, []),
      .ok (.res5_A, [])] := rfl

theorem test_decode_cb_Bx : [decode [0xCB, 0xB0], decode [0xCB, 0xB1], decode [0xCB, 0xB2], decode [0xCB, 0xB3],
      decode [0xCB, 0xB4], decode [0xCB, 0xB5], decode [0xCB, 0xB6], decode [0xCB, 0xB7], decode [0xCB, 0xB8],
      decode [0xCB, 0xB9], decode [0xCB, 0xBA], decode [0xCB, 0xBB], decode [0xCB, 0xBC], decode [0xCB, 0xBD],
      decode [0xCB, 0xBE], decode [0xCB, 0xBF]] = [
      .ok (.res6_B, []), .ok (.res6_C, []), .ok (.res6_D, []), .ok (.res6_E, []), .ok (.res6_H, []),
      .ok (.res6_L, []), .ok (.res6_MemHL, []), .ok (.res6_A, []), .ok (.res7_B, []), .ok (.res7_C, []),
      .ok (.res7_D, []), .ok (.res7_E, []), .ok (.res7_H, []), .ok (.res7_L, []), .ok (.res7_MemHL, []),
      .ok (.res7_A, [])] := rfl

theorem test_decode_cb_Cx : [decode [0xCB, 0xC0], decode [0xCB, 0xC1], decode [0xCB, 0xC2], decode [0xCB, 0xC3],
      decode [0xCB, 0xC4], decode [0xCB, 0xC5], decode [0xCB, 0xC6], decode [0xCB, 0xC7], decode [0xCB, 0xC8],
      decode [0xCB, 0xC9], decode [0xCB, 0xCA], decode [0xCB, 0xCB], decode [0xCB, 0xCC], decode [0xCB, 0xCD],
      decode [0xCB, 0xCE], decode [0xCB, 0xCF]] = [
      .ok (.set0_B, []), .ok (.set0_C, []), .ok (.set0_D, []), .ok (.set0_E, []), .ok (.set0_H, []),
      .ok (.set0_L, []), .ok (.set0_MemHL, []), .ok (.set0_A, []), .ok (.set1_B, []), .ok (.set1_C, []),
      .ok (.set1_D, []), .ok (.set1_E, []), .ok (.set1_H, []), .ok (.set1_L, []), .ok (.set1_MemHL, []),
      .ok (.set1_A, [])] := rfl

theorem test_decode_cb_Dx : [decode [0xCB, 0xD0], decode [0xCB, 0xD1], decode [0xCB, 0xD2], decode [0xCB, 0xD3],
      decode [0xCB, 0xD4], decode [0xCB, 0xD5], decode [0xCB, 0xD6], decode [0xCB, 0xD7], decode [0xCB, 0xD8],
      decode [0xCB, 0xD9], decode [0xCB, 0xDA], decode [0xCB, 0xDB], decode [0xCB, 0xDC], decode [0xCB, 0xDD],
      decode [0xCB, 0xDE], decode [0xCB, 0xDF]] = [
      .ok (.set2_B, []), .ok (.set2_C, []), .ok (.set2_D, []), .ok (.set2_E, []), .ok (.set2_H, []),
      .ok (.set2_L, []), .ok (.set2_MemHL, []), .ok (.set2_A, []), .ok (.set3_B, []), .ok (.set3_C, []),
      .ok (.set3_D, []), .ok (.set3_E, []), .ok (.set3_H, []), .ok (.set3_L, []), .ok (.set3_MemHL, []),
      .ok (.set3_A, [])] := rfl

theorem test_decode_cb_Ex : [decode [0xCB, 0xE0], decode [0xCB, 0xE1], decode [0xCB, 0xE2], decode [0xCB, 0xE3],
      decode [0xCB, 0xE4], decode [0xCB, 0xE5], decode [0xCB, 0xE6], decode [0xCB, 0xE7], decode [0xCB, 0xE8],
      decode [0xCB, 0xE9], decode [0xCB, 0xEA], decode [0xCB, 0xEB], decode [0xCB, 0xEC], decode [0xCB, 0xED],
      decode [0xCB, 0xEE], decode [0xCB, 0xEF]] = [
      .ok (.set4_B, []), .ok (.set4_C, []), .ok (.set4_D, []), .ok (.set4_E, []), .ok (.set4_H, []),
      .ok (.set4_L, []), .ok (.set4_MemHL, []), .ok (.set4_A, []), .ok (.set5_B, []), .ok (.set5_C, []),
      .ok (.set5_D, []), .ok (.set5_E, []), .ok (.set5_H, []), .ok (.set5_L, []), .ok (.set5_MemHL, []),
      .ok (.set5_A, [])] := rfl

theorem test_decode_cb_Fx : [decode [0xCB, 0xF0], decode [0xCB, 0xF1], decode [0xCB, 0xF2], decode [0xCB, 0xF3],
      decode [0xCB, 0xF4], decode [0xCB, 0xF5], decode [0xCB, 0xF6], decode [0xCB, 0xF7], decode [0xCB, 0xF8],
      decode [0xCB, 0xF9], decode [0xCB, 0xFA], decode [0xCB, 0xFB], decode [0xCB, 0xFC], decode [0xCB, 0xFD],
      decode [0xCB, 0xFE], decode [0xCB, 0xFF]] = [
      .ok (.set6_B, []), .ok (.set6_C, []), .ok (.set6_D, []), .ok (.set6_E, []), .ok (.set6_H, []),
      .ok (.set6_L, []), .ok (.set6_MemHL, []), .ok (.set6_A, []), .ok (.set7_B, []), .ok (.set7_C, []),
      .ok (.set7_D, []), .ok (.set7_E, []), .ok (.set7_H, []), .ok (.set7_L, []), .ok (.set7_MemHL, []),
      .ok (.set7_A, [])] := rfl

/-- The numbers of the opcode table: a base row, a CB row, and the escape's row, which with zero bits above is `RLC B`. -/
theorem test_decodeTableWord : decodeTableWord 8 0x78 = some .ldA_B ∧ decodeTableWord 16 0xCB7C = some .bit7_H ∧
    decodeTableWord 24 0x1234C3 = some (.jpA16 0x1234) ∧ decodeTableWord 8 0xCB = some .rlcB := by
  exact ⟨rfl, rfl, rfl, rfl⟩

/-- A list that ends inside an instruction is the one rejection. -/
theorem test_decode_truncated : decode [] = .error .noOpcode ∧ decode [0xC3, 0x34] = .error (.truncated 0xC3) ∧
    decode [0xCB] = .error (.truncated 0xCB) := by
  exact ⟨rfl, rfl, rfl⟩

/-! ## One step (95_test_vectors.md part 2, sections 41 to 47 and 60) -/

/-- The registers the instruction tables start from. -/
def c0 : Cpu := { State.reset.cpu with f := 0x00, pc := 0xC000 }

/-- Code at 0xC000 and bytes elsewhere. -/
def bytesAt (code : List Byte) (m : List (Nat × Byte)) : Memory :=
  m.foldl (fun u p => Memory.write u p.1 p.2) (Memory.ofBytes 0xC000 code)

/-- A start state of the instruction tables. -/
def start (code : List Byte) (c : Cpu) (m : List (Nat × Byte)) (irq : Irq) : State :=
  { State.reset with cpu := c, irq := irq, mem := bytesAt code m }

/-- What the instruction tables look at. -/
structure Seen where
  cpu : Cpu
  irq : Irq
  mem : Memory
  diag : List Diag
  cycles : Nat
  deriving DecidableEq, Repr

/-- The state after one step of the CPU alone. -/
def ran (s : State) : Option Seen :=
  match s.cpuStep exec with
  | .next t => some ⟨t.cpu, t.irq, t.mem, t.diag, t.cycles⟩
  | .fault _ => none
  | .refused _ => none

/-- The same, as a row of the tables gives it. -/
def left (code : List Byte) (c : Cpu) (m : List (Nat × Byte)) (irq : Irq) (diag : List Diag) (cycles : Nat) : Option Seen :=
  some ⟨c, irq, bytesAt code m, diag, cycles⟩

/-- `LD B,C` -/
theorem test_R160 : ran (start [0x41] { c0 with b := 0x00, c := 0x5A } [] ⟨0x01, 0x00⟩) =
    left [0x41] { c0 with b := 0x5A, c := 0x5A, pc := 0xC001 } [] ⟨0x01, 0x00⟩ [] 4 := by decide

/-- `LD E,(HL)` -/
theorem test_R161 : ran (start [0x5E] { c0 with h := 0xC1, l := 0x00 } [(0xC100, 0x99)] ⟨0x01, 0x00⟩) =
    left [0x5E] { c0 with h := 0xC1, l := 0x00, e := 0x99, pc := 0xC001 } [(0xC100, 0x99)] ⟨0x01, 0x00⟩ [] 8 := by decide

/-- `LD (HL),H` -/
theorem test_R162 : ran (start [0x74] { c0 with h := 0xC1, l := 0x23 } [] ⟨0x01, 0x00⟩) =
    left [0x74] { c0 with h := 0xC1, l := 0x23, pc := 0xC001 } [(0xC123, 0xC1)] ⟨0x01, 0x00⟩ [] 8 := by decide

/-- `LD D,0x7E` -/
theorem test_R163 : ran (start [0x16, 0x7E] c0 [] ⟨0x01, 0x00⟩) =
    left [0x16, 0x7E] { c0 with d := 0x7E, pc := 0xC002 } [] ⟨0x01, 0x00⟩ [] 8 := by decide +kernel

/-- `LD (HL),0x42` -/
theorem test_R164 : ran (start [0x36, 0x42] { c0 with h := 0xC1, l := 0x00 } [] ⟨0x01, 0x00⟩) =
    left [0x36, 0x42] { c0 with h := 0xC1, l := 0x00, pc := 0xC002 } [(0xC100, 0x42)] ⟨0x01, 0x00⟩ [] 12 := by decide +kernel

/-- `LD A,(BC)` -/
theorem test_R165 : ran (start [0x0A] { c0 with b := 0xC2, c := 0x00 } [(0xC200, 0x11)] ⟨0x01, 0x00⟩) =
    left [0x0A] { c0 with b := 0xC2, c := 0x00, a := 0x11, pc := 0xC001 } [(0xC200, 0x11)] ⟨0x01, 0x00⟩ [] 8 := by decide +kernel

/-- `LD (DE),A` -/
theorem test_R168 : ran (start [0x12] { c0 with a := 0x6F, d := 0xC3, e := 0x01 } [] ⟨0x01, 0x00⟩) =
    left [0x12] { c0 with a := 0x6F, d := 0xC3, e := 0x01, pc := 0xC001 } [(0xC301, 0x6F)] ⟨0x01, 0x00⟩ [] 8 := by decide

/-- `LD A,(HL+)` -/
theorem test_R169 : ran (start [0x2A] { c0 with h := 0xC1, l := 0xFF } [(0xC1FF, 0x77)] ⟨0x01, 0x00⟩) =
    left [0x2A] { c0 with h := 0xC2, l := 0x00, a := 0x77, pc := 0xC001 } [(0xC1FF, 0x77)] ⟨0x01, 0x00⟩ [] 8 := by decide +kernel

/-- `LD (HL-),A` -/
theorem test_R172 : ran (start [0x32] { c0 with a := 0x34, h := 0xC1, l := 0x00 } [] ⟨0x01, 0x00⟩) =
    left [0x32] { c0 with a := 0x34, h := 0xC0, l := 0xFF, pc := 0xC001 } [(0xC100, 0x34)] ⟨0x01, 0x00⟩ [] 8 := by decide

/-- `LD A,(0xC1A0)` -/
theorem test_R173 : ran (start [0xFA, 0xA0, 0xC1] c0 [(0xC1A0, 0xAB)] ⟨0x01, 0x00⟩) =
    left [0xFA, 0xA0, 0xC1] { c0 with a := 0xAB, pc := 0xC003 } [(0xC1A0, 0xAB)] ⟨0x01, 0x00⟩ [] 16 := by decide

/-- `LDH (0x80),A` -/
theorem test_R176 : ran (start [0xE0, 0x80] { c0 with a := 0x5A } [] ⟨0x01, 0x00⟩) =
    left [0xE0, 0x80] { c0 with a := 0x5A, pc := 0xC002 } [(0xFF80, 0x5A)] ⟨0x01, 0x00⟩ [] 12 := by decide

/-- `LD (C),A` -/
theorem test_R178 : ran (start [0xE2] { c0 with a := 0x99, c := 0x81 } [] ⟨0x01, 0x00⟩) =
    left [0xE2] { c0 with a := 0x99, c := 0x81, pc := 0xC001 } [(0xFF81, 0x99)] ⟨0x01, 0x00⟩ [] 8 := by decide

/-- `LD BC,0x1234` -/
theorem test_R179 : ran (start [0x01, 0x34, 0x12] c0 [] ⟨0x01, 0x00⟩) =
    left [0x01, 0x34, 0x12] { c0 with b := 0x12, c := 0x34, pc := 0xC003 } [] ⟨0x01, 0x00⟩ [] 12 := by decide

/-- `LD (0xC100),SP` -/
theorem test_R180 : ran (start [0x08, 0x00, 0xC1] { c0 with sp := 0xBEEF } [] ⟨0x01, 0x00⟩) =
    left [0x08, 0x00, 0xC1] { c0 with sp := 0xBEEF, pc := 0xC003 } [(0xC100, 0xEF), (0xC101, 0xBE)] ⟨0x01, 0x00⟩ [] 20 := by decide

/-- `LD SP,HL` -/
theorem test_R181 : ran (start [0xF9] { c0 with h := 0xD0, l := 0x00 } [] ⟨0x01, 0x00⟩) =
    left [0xF9] { c0 with h := 0xD0, l := 0x00, sp := 0xD000, pc := 0xC001 } [] ⟨0x01, 0x00⟩ [] 8 := by decide

/-- `PUSH AF` -/
theorem test_R182 : ran (start [0xF5] { c0 with sp := 0xD000, a := 0xAB, f := 0xF0 } [] ⟨0x01, 0x00⟩) =
    left [0xF5] { c0 with sp := 0xCFFE, a := 0xAB, f := 0xF0, pc := 0xC001 } [(0xCFFE, 0xF0), (0xCFFF, 0xAB)] ⟨0x01, 0x00⟩ [] 16 := by decide

/-- `POP DE` -/
theorem test_R183 : ran (start [0xD1] { c0 with sp := 0xCFFE } [(0xCFFE, 0x78), (0xCFFF, 0x56)] ⟨0x01, 0x00⟩) =
    left [0xD1] { c0 with sp := 0xD000, d := 0x56, e := 0x78, pc := 0xC001 } [(0xCFFE, 0x78), (0xCFFF, 0x56)] ⟨0x01, 0x00⟩ [] 12 := by decide

/-- `POP AF` -/
theorem test_R184 : ran (start [0xF1] { c0 with sp := 0xCFFE } [(0xCFFE, 0xFF), (0xCFFF, 0x12)] ⟨0x01, 0x00⟩) =
    left [0xF1] { c0 with sp := 0xD000, f := 0xF0, a := 0x12, pc := 0xC001 } [(0xCFFE, 0xFF), (0xCFFF, 0x12)] ⟨0x01, 0x00⟩ [] 12 := by decide

/-- `ADD A,B` -/
theorem test_R203 : ran (start [0x80] { c0 with a := 0x3A, b := 0xC6 } [] ⟨0x01, 0x00⟩) =
    left [0x80] { c0 with a := 0x00, b := 0xC6, f := 0xB0, pc := 0xC001 } [] ⟨0x01, 0x00⟩ [] 4 := by decide

/-- `ADD A,(HL)` -/
theorem test_R204 : ran (start [0x86] { c0 with a := 0x3C, h := 0xC1, l := 0x00 } [(0xC100, 0x12)] ⟨0x01, 0x00⟩) =
    left [0x86] { c0 with a := 0x4E, h := 0xC1, l := 0x00, pc := 0xC001 } [(0xC100, 0x12)] ⟨0x01, 0x00⟩ [] 8 := by decide

/-- `ADD A,0xFF` -/
theorem test_R205 : ran (start [0xC6, 0xFF] { c0 with a := 0x01 } [] ⟨0x01, 0x00⟩) =
    left [0xC6, 0xFF] { c0 with a := 0x00, f := 0xB0, pc := 0xC002 } [] ⟨0x01, 0x00⟩ [] 8 := by decide

/-- `ADC A,C` -/
theorem test_R206 : ran (start [0x89] { c0 with a := 0xFF, c := 0x00, f := 0x10 } [] ⟨0x01, 0x00⟩) =
    left [0x89] { c0 with a := 0x00, c := 0x00, f := 0xB0, pc := 0xC001 } [] ⟨0x01, 0x00⟩ [] 4 := by decide

/-- `ADC A,(HL)` -/
theorem test_R207 : ran (start [0x8E] { c0 with a := 0xE1, h := 0xC1, l := 0x00, f := 0x10 } [(0xC100, 0x1E)] ⟨0x01, 0x00⟩) =
    left [0x8E] { c0 with a := 0x00, h := 0xC1, l := 0x00, f := 0xB0, pc := 0xC001 } [(0xC100, 0x1E)] ⟨0x01, 0x00⟩ [] 8 := by decide

/-- `ADC A,0x3B` -/
theorem test_R208 : ran (start [0xCE, 0x3B] { c0 with a := 0xE1, f := 0x10 } [] ⟨0x01, 0x00⟩) =
    left [0xCE, 0x3B] { c0 with a := 0x1D, f := 0x10, pc := 0xC002 } [] ⟨0x01, 0x00⟩ [] 8 := by decide

/-- `SUB E` -/
theorem test_R209 : ran (start [0x93] { c0 with a := 0x3E, e := 0x3E } [] ⟨0x01, 0x00⟩) =
    left [0x93] { c0 with a := 0x00, e := 0x3E, f := 0xC0, pc := 0xC001 } [] ⟨0x01, 0x00⟩ [] 4 := by decide

/-- `SBC A,H` -/
theorem test_R212 : ran (start [0x9C] { c0 with a := 0x3B, h := 0x2A, f := 0x10 } [] ⟨0x01, 0x00⟩) =
    left [0x9C] { c0 with a := 0x10, h := 0x2A, f := 0x40, pc := 0xC001 } [] ⟨0x01, 0x00⟩ [] 4 := by decide

/-- `SBC A,(HL)` -/
theorem test_R213 : ran (start [0x9E] { c0 with a := 0x3B, h := 0xC1, l := 0x00, f := 0x10 } [(0xC100, 0x4F)] ⟨0x01, 0x00⟩) =
    left [0x9E] { c0 with a := 0xEB, h := 0xC1, l := 0x00, f := 0x70, pc := 0xC001 } [(0xC100, 0x4F)] ⟨0x01, 0x00⟩ [] 8 := by decide

/-- `SBC A,0x3A` -/
theorem test_R214 : ran (start [0xDE, 0x3A] { c0 with a := 0x3B, f := 0x10 } [] ⟨0x01, 0x00⟩) =
    left [0xDE, 0x3A] { c0 with a := 0x00, f := 0xC0, pc := 0xC002 } [] ⟨0x01, 0x00⟩ [] 8 := by decide

/-- `AND L` -/
theorem test_R215 : ran (start [0xA5] { c0 with a := 0x5A, l := 0x3F, f := 0x10 } [] ⟨0x01, 0x00⟩) =
    left [0xA5] { c0 with a := 0x1A, l := 0x3F, f := 0x20, pc := 0xC001 } [] ⟨0x01, 0x00⟩ [] 4 := by decide

/-- `XOR A` -/
theorem test_R218 : ran (start [0xAF] { c0 with a := 0xFF, f := 0x70 } [] ⟨0x01, 0x00⟩) =
    left [0xAF] { c0 with a := 0x00, f := 0x80, pc := 0xC001 } [] ⟨0x01, 0x00⟩ [] 4 := by decide

/-- `OR (HL)` -/
theorem test_R222 : ran (start [0xB6] { c0 with a := 0x5A, h := 0xC1, l := 0x00 } [(0xC100, 0x0F)] ⟨0x01, 0x00⟩) =
    left [0xB6] { c0 with a := 0x5F, h := 0xC1, l := 0x00, pc := 0xC001 } [(0xC100, 0x0F)] ⟨0x01, 0x00⟩ [] 8 := by decide

/-- `CP B` -/
theorem test_R224 : ran (start [0xB8] { c0 with a := 0x3C, b := 0x2F } [] ⟨0x01, 0x00⟩) =
    left [0xB8] { c0 with a := 0x3C, b := 0x2F, f := 0x60, pc := 0xC001 } [] ⟨0x01, 0x00⟩ [] 4 := by decide

/-- `CP (HL)` -/
theorem test_R225 : ran (start [0xBE] { c0 with a := 0x3C, h := 0xC1, l := 0x00 } [(0xC100, 0x40)] ⟨0x01, 0x00⟩) =
    left [0xBE] { c0 with a := 0x3C, h := 0xC1, l := 0x00, f := 0x50, pc := 0xC001 } [(0xC100, 0x40)] ⟨0x01, 0x00⟩ [] 8 := by decide

/-- `CP 0x3C` -/
theorem test_R226 : ran (start [0xFE, 0x3C] { c0 with a := 0x3C } [] ⟨0x01, 0x00⟩) =
    left [0xFE, 0x3C] { c0 with a := 0x3C, f := 0xC0, pc := 0xC002 } [] ⟨0x01, 0x00⟩ [] 8 := by decide

/-- `INC B` -/
theorem test_R227 : ran (start [0x04] { c0 with b := 0x0F } [] ⟨0x01, 0x00⟩) =
    left [0x04] { c0 with b := 0x10, f := 0x20, pc := 0xC001 } [] ⟨0x01, 0x00⟩ [] 4 := by decide

/-- `INC (HL)` -/
theorem test_R228 : ran (start [0x34] { c0 with h := 0xC1, l := 0x00 } [(0xC100, 0x50)] ⟨0x01, 0x00⟩) =
    left [0x34] { c0 with h := 0xC1, l := 0x00, pc := 0xC001 } [(0xC100, 0x50), (0xC100, 0x51)] ⟨0x01, 0x00⟩ [] 12 := by decide

/-- `DEC D` -/
theorem test_R229 : ran (start [0x15] { c0 with d := 0x00, f := 0x10 } [] ⟨0x01, 0x00⟩) =
    left [0x15] { c0 with d := 0xFF, f := 0x70, pc := 0xC001 } [] ⟨0x01, 0x00⟩ [] 4 := by decide

/-- `DEC (HL)` -/
theorem test_R230 : ran (start [0x35] { c0 with h := 0xC1, l := 0x00 } [(0xC100, 0x00)] ⟨0x01, 0x00⟩) =
    left [0x35] { c0 with h := 0xC1, l := 0x00, f := 0x60, pc := 0xC001 } [(0xC100, 0x00), (0xC100, 0xFF)] ⟨0x01, 0x00⟩ [] 12 := by decide

/-- `DAA after 0x99+0x01 (A=9A)` -/
theorem test_R231 : ran (start [0x27] { c0 with a := 0x9A } [] ⟨0x01, 0x00⟩) =
    left [0x27] { c0 with a := 0x00, f := 0x90, pc := 0xC001 } [] ⟨0x01, 0x00⟩ [] 4 := by decide

/-- `DAA after 0x42-0x15 (A=2D,N,H)` -/
theorem test_R231_2 : ran (start [0x27] { c0 with a := 0x2D, f := 0x60 } [] ⟨0x01, 0x00⟩) =
    left [0x27] { c0 with a := 0x27, f := 0x40, pc := 0xC001 } [] ⟨0x01, 0x00⟩ [] 4 := by decide

/-- `CPL` -/
theorem test_R232 : ran (start [0x2F] { c0 with a := 0x35, f := 0x90 } [] ⟨0x01, 0x00⟩) =
    left [0x2F] { c0 with a := 0xCA, f := 0xF0, pc := 0xC001 } [] ⟨0x01, 0x00⟩ [] 4 := by decide

/-- `SCF` -/
theorem test_R233 : ran (start [0x37] { c0 with f := 0xE0 } [] ⟨0x01, 0x00⟩) =
    left [0x37] { c0 with f := 0x90, pc := 0xC001 } [] ⟨0x01, 0x00⟩ [] 4 := by decide

/-- `CCF` -/
theorem test_R234 : ran (start [0x3F] { c0 with f := 0x70 } [] ⟨0x01, 0x00⟩) =
    left [0x3F] { c0 with pc := 0xC001 } [] ⟨0x01, 0x00⟩ [] 4 := by decide

/-- `INC BC` -/
theorem test_R251 : ran (start [0x03] { c0 with b := 0xFF, c := 0xFF, f := 0xF0 } [] ⟨0x01, 0x00⟩) =
    left [0x03] { c0 with b := 0x00, c := 0x00, f := 0xF0, pc := 0xC001 } [] ⟨0x01, 0x00⟩ [] 8 := by decide

/-- `DEC DE` -/
theorem test_R252 : ran (start [0x1B] { c0 with d := 0x00, e := 0x00 } [] ⟨0x01, 0x00⟩) =
    left [0x1B] { c0 with d := 0xFF, e := 0xFF, pc := 0xC001 } [] ⟨0x01, 0x00⟩ [] 8 := by decide

/-- `ADD HL,HL` -/
theorem test_R253 : ran (start [0x29] { c0 with h := 0x8A, l := 0x23, f := 0x80 } [] ⟨0x01, 0x00⟩) =
    left [0x29] { c0 with h := 0x14, l := 0x46, f := 0xB0, pc := 0xC001 } [] ⟨0x01, 0x00⟩ [] 8 := by decide

/-- `ADD SP,-1` -/
theorem test_R254 : ran (start [0xE8, 0xFF] { c0 with sp := 0x0000 } [] ⟨0x01, 0x00⟩) =
    left [0xE8, 0xFF] { c0 with sp := 0xFFFF, pc := 0xC002 } [] ⟨0x01, 0x00⟩ [] 16 := by decide

/-- `LD HL,SP-128` -/
theorem test_R255 : ran (start [0xF8, 0x80] { c0 with sp := 0x0080 } [] ⟨0x01, 0x00⟩) =
    left [0xF8, 0x80] { c0 with sp := 0x0080, f := 0x10, h := 0x00, l := 0x00, pc := 0xC002 } [] ⟨0x01, 0x00⟩ [] 12 := by decide

/-- `RLCA` -/
theorem test_R270 : ran (start [0x07] { c0 with a := 0x85, f := 0x80 } [] ⟨0x01, 0x00⟩) =
    left [0x07] { c0 with a := 0x0B, f := 0x10, pc := 0xC001 } [] ⟨0x01, 0x00⟩ [] 4 := by decide

/-- `RRCA` -/
theorem test_R271 : ran (start [0x0F] { c0 with a := 0x3B } [] ⟨0x01, 0x00⟩) =
    left [0x0F] { c0 with a := 0x9D, f := 0x10, pc := 0xC001 } [] ⟨0x01, 0x00⟩ [] 4 := by decide

/-- `RLA` -/
theorem test_R272 : ran (start [0x17] { c0 with a := 0x95, f := 0x10 } [] ⟨0x01, 0x00⟩) =
    left [0x17] { c0 with a := 0x2B, f := 0x10, pc := 0xC001 } [] ⟨0x01, 0x00⟩ [] 4 := by decide

/-- `RRA` -/
theorem test_R273 : ran (start [0x1F] { c0 with a := 0x81 } [] ⟨0x01, 0x00⟩) =
    left [0x1F] { c0 with a := 0x40, f := 0x10, pc := 0xC001 } [] ⟨0x01, 0x00⟩ [] 4 := by decide

/-- `RLC B` -/
theorem test_R275 : ran (start [0xCB, 0x00] { c0 with b := 0x85 } [] ⟨0x01, 0x00⟩) =
    left [0xCB, 0x00] { c0 with b := 0x0B, f := 0x10, pc := 0xC002 } [] ⟨0x01, 0x00⟩ [] 8 := by decide

/-- `RRC (HL)` -/
theorem test_R278 : ran (start [0xCB, 0x0E] { c0 with h := 0xC1, l := 0x00 } [(0xC100, 0x01)] ⟨0x01, 0x00⟩) =
    left [0xCB, 0x0E] { c0 with h := 0xC1, l := 0x00, f := 0x10, pc := 0xC002 } [(0xC100, 0x01), (0xC100, 0x80)] ⟨0x01, 0x00⟩ [] 16 := by decide

/-- `RL B` -/
theorem test_R279 : ran (start [0xCB, 0x10] { c0 with b := 0x85, f := 0x10 } [] ⟨0x01, 0x00⟩) =
    left [0xCB, 0x10] { c0 with b := 0x0B, f := 0x10, pc := 0xC002 } [] ⟨0x01, 0x00⟩ [] 8 := by decide

/-- `RR (HL)` -/
theorem test_R282 : ran (start [0xCB, 0x1E] { c0 with h := 0xC1, l := 0x00 } [(0xC100, 0x01)] ⟨0x01, 0x00⟩) =
    left [0xCB, 0x1E] { c0 with h := 0xC1, l := 0x00, f := 0x90, pc := 0xC002 } [(0xC100, 0x01), (0xC100, 0x00)] ⟨0x01, 0x00⟩ [] 16 := by decide

/-- `SLA B` -/
theorem test_R283 : ran (start [0xCB, 0x20] { c0 with b := 0x85 } [] ⟨0x01, 0x00⟩) =
    left [0xCB, 0x20] { c0 with b := 0x0A, f := 0x10, pc := 0xC002 } [] ⟨0x01, 0x00⟩ [] 8 := by decide

/-- `SRA B` -/
theorem test_R285 : ran (start [0xCB, 0x28] { c0 with b := 0x85 } [] ⟨0x01, 0x00⟩) =
    left [0xCB, 0x28] { c0 with b := 0xC2, f := 0x10, pc := 0xC002 } [] ⟨0x01, 0x00⟩ [] 8 := by decide

/-- `SWAP B` -/
theorem test_R287 : ran (start [0xCB, 0x30] { c0 with b := 0x85 } [] ⟨0x01, 0x00⟩) =
    left [0xCB, 0x30] { c0 with b := 0x58, pc := 0xC002 } [] ⟨0x01, 0x00⟩ [] 8 := by decide

/-- `SRL (HL)` -/
theorem test_R290 : ran (start [0xCB, 0x3E] { c0 with h := 0xC1, l := 0x00 } [(0xC100, 0x01)] ⟨0x01, 0x00⟩) =
    left [0xCB, 0x3E] { c0 with h := 0xC1, l := 0x00, f := 0x90, pc := 0xC002 } [(0xC100, 0x01), (0xC100, 0x00)] ⟨0x01, 0x00⟩ [] 16 := by decide

/-- `BIT 7,H` -/
theorem test_R300 : ran (start [0xCB, 0x7C] { c0 with h := 0x80 } [] ⟨0x01, 0x00⟩) =
    left [0xCB, 0x7C] { c0 with h := 0x80, f := 0x20, pc := 0xC002 } [] ⟨0x01, 0x00⟩ [] 8 := by decide

/-- `BIT 0,(HL)` -/
theorem test_R301 : ran (start [0xCB, 0x46] { c0 with h := 0xC1, l := 0x00, f := 0x50 } [(0xC100, 0xFE)] ⟨0x01, 0x00⟩) =
    left [0xCB, 0x46] { c0 with h := 0xC1, l := 0x00, f := 0xB0, pc := 0xC002 } [(0xC100, 0xFE)] ⟨0x01, 0x00⟩ [] 12 := by decide

/-- `RES 0,A` -/
theorem test_R302 : ran (start [0xCB, 0x87] { c0 with a := 0xFF, f := 0xF0 } [] ⟨0x01, 0x00⟩) =
    left [0xCB, 0x87] { c0 with a := 0xFE, f := 0xF0, pc := 0xC002 } [] ⟨0x01, 0x00⟩ [] 8 := by decide

/-- `RES 7,(HL)` -/
theorem test_R303 : ran (start [0xCB, 0xBE] { c0 with h := 0xC1, l := 0x00 } [(0xC100, 0xFF)] ⟨0x01, 0x00⟩) =
    left [0xCB, 0xBE] { c0 with h := 0xC1, l := 0x00, pc := 0xC002 } [(0xC100, 0xFF), (0xC100, 0x7F)] ⟨0x01, 0x00⟩ [] 16 := by decide

/-- `SET 3,E` -/
theorem test_R304 : ran (start [0xCB, 0xDB] { c0 with e := 0x00 } [] ⟨0x01, 0x00⟩) =
    left [0xCB, 0xDB] { c0 with e := 0x08, pc := 0xC002 } [] ⟨0x01, 0x00⟩ [] 8 := by decide

/-- `SET 7,(HL)` -/
theorem test_R305 : ran (start [0xCB, 0xFE] { c0 with h := 0xC1, l := 0x00 } [(0xC100, 0x00)] ⟨0x01, 0x00⟩) =
    left [0xCB, 0xFE] { c0 with h := 0xC1, l := 0x00, pc := 0xC002 } [(0xC100, 0x00), (0xC100, 0x80)] ⟨0x01, 0x00⟩ [] 16 := by decide

/-- `JP 0x1234` -/
theorem test_R321 : ran (start [0xC3, 0x34, 0x12] c0 [] ⟨0x01, 0x00⟩) =
    left [0xC3, 0x34, 0x12] { c0 with pc := 0x1234 } [] ⟨0x01, 0x00⟩ [] 16 := by decide

/-- `JP NZ,0x1234` -/
theorem test_R322 : ran (start [0xC2, 0x34, 0x12] c0 [] ⟨0x01, 0x00⟩) =
    left [0xC2, 0x34, 0x12] { c0 with pc := 0x1234 } [] ⟨0x01, 0x00⟩ [] 16 := by decide

/-- `JP HL` -/
theorem test_R323 : ran (start [0xE9] { c0 with h := 0xC1, l := 0x23 } [] ⟨0x01, 0x00⟩) =
    left [0xE9] { c0 with h := 0xC1, l := 0x23, pc := 0xC123 } [] ⟨0x01, 0x00⟩ [] 4 := by decide

/-- `JR -2` -/
theorem test_R324 : ran (start [0x18, 0xFE] c0 [] ⟨0x01, 0x00⟩) =
    left [0x18, 0xFE] c0 [] ⟨0x01, 0x00⟩ [] 12 := by decide

/-- `JR C,-128` -/
theorem test_R325 : ran (start [0x38, 0x80] { c0 with f := 0x10 } [] ⟨0x01, 0x00⟩) =
    left [0x38, 0x80] { c0 with f := 0x10, pc := 0xBF82 } [] ⟨0x01, 0x00⟩ [] 12 := by decide

/-- `CALL 0x1234` -/
theorem test_R326 : ran (start [0xCD, 0x34, 0x12] { c0 with sp := 0xD000 } [] ⟨0x01, 0x00⟩) =
    left [0xCD, 0x34, 0x12] { c0 with sp := 0xCFFE, pc := 0x1234 } [(0xCFFE, 0x03), (0xCFFF, 0xC0)] ⟨0x01, 0x00⟩ [] 24 := by decide

/-- `CALL 0x1234 (SP=0001)` -/
theorem test_R326_2 : ran (start [0xCD, 0x34, 0x12] { c0 with sp := 0x0001 } [] ⟨0x01, 0x00⟩) =
    left [0xCD, 0x34, 0x12] { c0 with sp := 0xFFFF, pc := 0x1234 } [] ⟨0x01, 0x03⟩ [] 24 := by decide

/-- `CALL C,0x1234` -/
theorem test_R327 : ran (start [0xDC, 0x34, 0x12] { c0 with sp := 0xD000, f := 0x10 } [] ⟨0x01, 0x00⟩) =
    left [0xDC, 0x34, 0x12] { c0 with sp := 0xCFFE, f := 0x10, pc := 0x1234 } [(0xCFFE, 0x03), (0xCFFF, 0xC0)] ⟨0x01, 0x00⟩ [] 24 := by decide

/-- `RET` -/
theorem test_R328 : ran (start [0xC9] { c0 with sp := 0xCFFE } [(0xCFFE, 0x03), (0xCFFF, 0xC0)] ⟨0x01, 0x00⟩) =
    left [0xC9] { c0 with sp := 0xD000, pc := 0xC003 } [(0xCFFE, 0x03), (0xCFFF, 0xC0)] ⟨0x01, 0x00⟩ [] 16 := by decide

/-- `RET NC` -/
theorem test_R329 : ran (start [0xD0] { c0 with sp := 0xCFFE } [(0xCFFE, 0x03), (0xCFFF, 0xC0)] ⟨0x01, 0x00⟩) =
    left [0xD0] { c0 with sp := 0xD000, pc := 0xC003 } [(0xCFFE, 0x03), (0xCFFF, 0xC0)] ⟨0x01, 0x00⟩ [] 20 := by decide

/-- `RET NC` -/
theorem test_R329_2 : ran (start [0xD0] { c0 with sp := 0xCFFE, f := 0x10 } [(0xCFFE, 0x03), (0xCFFF, 0xC0)] ⟨0x01, 0x00⟩) =
    left [0xD0] { c0 with sp := 0xCFFE, f := 0x10, pc := 0xC001 } [(0xCFFE, 0x03), (0xCFFF, 0xC0)] ⟨0x01, 0x00⟩ [] 8 := by decide

/-- `RETI` -/
theorem test_R330 : ran (start [0xD9] { c0 with sp := 0xCFFE, ime := false } [(0xCFFE, 0x03), (0xCFFF, 0xC0)] ⟨0x01, 0x00⟩) =
    left [0xD9] { c0 with sp := 0xD000, ime := true, pc := 0xC003 } [(0xCFFE, 0x03), (0xCFFF, 0xC0)] ⟨0x01, 0x00⟩ [] 16 := by decide

/-- `RST 28H` -/
theorem test_R331 : ran (start [0xEF] { c0 with sp := 0xD000 } [] ⟨0x01, 0x00⟩) =
    left [0xEF] { c0 with sp := 0xCFFE, pc := 0x0028 } [(0xCFFE, 0x01), (0xCFFF, 0xC0)] ⟨0x01, 0x00⟩ [] 16 := by decide

/-- `NOP` -/
theorem test_R350 : ran (start [0x00] c0 [] ⟨0x01, 0x00⟩) =
    left [0x00] { c0 with pc := 0xC001 } [] ⟨0x01, 0x00⟩ [] 4 := by decide

/-- `HALT` -/
theorem test_R351 : ran (start [0x76] c0 [] ⟨0x01, 0x00⟩) =
    left [0x76] { c0 with pc := 0xC001, halted := true } [] ⟨0x01, 0x00⟩ [] 4 := by decide

/-- `STOP` -/
theorem test_R352 : ran (start [0x10, 0x00] c0 [] ⟨0x01, 0x00⟩) =
    left [0x10, 0x00] { c0 with pc := 0xC002, stopped := true } [] ⟨0x01, 0x00⟩ [] 4 := by decide

/-- `DI` -/
theorem test_R353 : ran (start [0xF3] { c0 with ime := true } [] ⟨0x01, 0x00⟩) =
    left [0xF3] { c0 with ime := false, pc := 0xC001 } [] ⟨0x01, 0x00⟩ [] 4 := by decide

/-- `EI (one step)` -/
theorem test_R354 : ran (start [0xFB] { c0 with ime := false } [] ⟨0x01, 0x00⟩) =
    left [0xFB] { c0 with ime := false, pc := 0xC001, imeEnableDelay := some 1 } [] ⟨0x01, 0x00⟩ [] 4 := by decide

/-- `UNDEFINED D3` -/
theorem test_R356 : ran (start [0xD3] c0 [] ⟨0x01, 0x00⟩) =
    left [0xD3] { c0 with pc := 0xC001 } [] ⟨0x01, 0x00⟩ [.unknownOpcode 0xD3] 4 := by decide

/-- `service VBlank (NOP at PC)` -/
theorem test_R410 : ran (start [0x00] { c0 with sp := 0xD000, ime := true } [] ⟨0x01, 0x01⟩) =
    left [0x00] { c0 with sp := 0xCFFE, ime := false, pc := 0x0040 } [(0xCFFE, 0x00), (0xCFFF, 0xC0)] ⟨0x00, 0x01⟩ [] 16 := by decide

/-- `service from HALT` -/
theorem test_R410_2 : ran (start [0x00] { c0 with sp := 0xD000, ime := true, halted := true } [] ⟨0x04, 0x04⟩) =
    left [0x00] { c0 with sp := 0xCFFE, ime := false, halted := false, pc := 0x0050 } [(0xCFFE, 0x00), (0xCFFF, 0xC0)] ⟨0x00, 0x04⟩ [] 20 := by decide

/-- `IE bit 5 only: not pending` -/
theorem test_R402 : ran (start [0x00] { c0 with ime := true } [] ⟨0x1F, 0x20⟩) =
    left [0x00] { c0 with ime := true, pc := 0xC001 } [] ⟨0x1F, 0x20⟩ [] 4 := by decide

/-- `HALT wake, IME=0 (delta 1)` -/
theorem test_R411 : ran (start [0x00] { c0 with ime := false, halted := true } [] ⟨0x10, 0x10⟩) =
    left [0x00] { c0 with ime := false, halted := false, pc := 0xC001 } [] ⟨0x10, 0x10⟩ [] 4 := by decide

/-- `halted idle, nothing pending` -/
theorem test_R412 : ran (start [0x00] { c0 with ime := true, halted := true } [] ⟨0x1F, 0x00⟩) =
    left [0x00] { c0 with ime := true, halted := true } [] ⟨0x1F, 0x00⟩ [] 4 := by decide

/-- `stopped, IE&IF=0` -/
theorem test_R413 : ran (start [0x00] { c0 with stopped := true } [] ⟨0x01, 0x00⟩) =
    left [0x00] { c0 with stopped := true } [] ⟨0x01, 0x00⟩ [] 4 := by decide

/-- `stopped, IE&IF!=0: wakes, no service` -/
theorem test_R413_2 : ran (start [0x00] { c0 with ime := true, stopped := true } [] ⟨0x01, 0x01⟩) =
    left [0x00] { c0 with ime := true, stopped := false } [] ⟨0x01, 0x01⟩ [] 4 := by decide

/-- The one full system step of the reset section: NOP at 0x0100, then the devices. -/
theorem test_reset_first_step : (match step State.reset with
    | .next t => some (t.cpu.pc, t.timer.div, t.timer.divAcc, t.ppu.clock, t.irq.flag)
    | .fault _ => none
    | .refused _ => none) = some (0x0101, 0xAB, 4, 4, 0x03) := by decide

/-- `withFetchWord` puts the instruction where the next step runs it, in ROM at reset. -/
theorem test_withFetchWord : (match step (State.reset.withFetchWord 24 0x1234C3) with
    | .next t => some (t.cpu.pc, t.cycles)
    | .fault _ => none
    | .refused _ => none) = some (0x1234, 16) := by decide

/-! ## Devices (95_test_vectors.md parts 1 and 2) -/

/-- Vector V6, rows 2 to 4. -/
theorem test_joypad : let s := (State.reset.write8 0xFF00 0x10).setButton .a true
    (State.reset.write8 0xFF00 0x10).peek 0xFF00 = 0xDF ∧ s.peek 0xFF00 = 0xDE ∧ s.irq.flag = 0x11 ∧
      (s.write8 0xFF00 0x20).peek 0xFF00 = 0xEF := by decide

/-- Vector V7: a transfer started with bit 7 alone does nothing; with bits 7 and 0 it completes. -/
theorem test_serial : let s := State.reset.write8 0xFF01 0x5A
    (s.write8 0xFF02 0x80).peek 0xFF02 = 0xFE ∧ (s.write8 0xFF02 0x80).serial.out = [] ∧
      (s.write8 0xFF02 0xFF).peek 0xFF02 = 0x7F ∧ (s.write8 0xFF02 0xFF).serial.out = [0x5A] ∧
      (s.write8 0xFF02 0xFF).irq.flag = 0x09 := by decide

/-- A 2 MiB MBC1 cartridge whose bank b begins with byte b, for b in the list. -/
def banked (banks : List Nat) (code : Byte) (ram : Nat) : State :=
  { State.reset with cart :=
    { rom := banks.map (fun b => (b * 0x4000, BitVec.ofNat 8 b)), romLen := 0x8000 <<< code.toNat, romSizeCode := code,
      ramSize := ram, mapper := .mbc1 Mbc1.reset } }

/-- Vector V4 and the first rows of the MBC1 table: bank 0 aliases to 1; `bank_high` and Advanced mode. -/
theorem test_mbc1_rom : let s := banked [0x01, 0x1F, 0x40, 0x45] 6 0
    let t := (s.write8 0x2000 0x05).write8 0x4000 0x02
    (s.write8 0x2000 0x00).peek 0x4000 = 0x01 ∧ (s.write8 0x2000 0x1F).peek 0x4000 = 0x1F ∧
      t.peek 0x4000 = 0x45 ∧ t.peek 0x0000 = 0x00 ∧ (t.write8 0x6000 0x01).peek 0x0000 = 0x40 := by decide +kernel

/-- The RAM rows of the MBC1 table. -/
theorem test_mbc1_ram : let s := ((banked [1] 1 0x8000).write8 0x0000 0x0A).write8 0xA000 0x11
    let t := (s.write8 0x4000 0x02).write8 0xA000 0x22
    (banked [1] 1 0x8000).peek 0xA000 = 0xFF ∧ s.peek 0xA000 = 0x11 ∧ t.peek 0xA000 = 0x22 ∧
      (t.write8 0x6000 0x01).peek 0xA000 = 0x00 ∧ (t.write8 0x0000 0x1A).peek 0xA000 = 0xFF := by decide +kernel

/-- The I/O read table at reset. -/
theorem test_io_reads : [0xFF0F, 0xFFFF, 0xFF02, 0xFF07, 0xFF41, 0xFF40, 0xFF46, 0xFF47, 0xFF48, 0xFF26, 0xFF03, 0xFEA0,
      0xA000].map State.reset.peek =
    [0xE1, 0x00, 0x7E, 0xF8, 0x86, 0x91, 0xFF, 0xFC, 0xFF, 0x00, 0xFF, 0xFF, 0xFF] := by decide

/-- `LDH (0x04),A` resets DIV and its accumulator; TIMA's runs on (the R431 row of the timer table). -/
theorem test_timer : let s := start [0xE0, 0x04] c0 [] ⟨0, 0⟩
    (match step { s with timer := ⟨0x37, 0x00, 0x40, 0x05, 200, 7⟩, ppu := { s.ppu with lyc := 0xC8 } } with
    | .next t => some (t.timer.div, t.timer.divAcc, t.timer.tima, t.timer.timaAcc, t.irq.flag)
    | .fault _ => none
    | .refused _ => none) = some (0x00, 12, 0x01, 3, 0) := by decide

/-- TIMA wraps to TMA and requests the Timer interrupt (the second R432 row). -/
theorem test_timer_wrap : let t := { State.reset with timer := ⟨0, 0xFF, 0x40, 0x05, 0, 0⟩ }.timerUpdate 16
    t.timer.tima = 0x40 ∧ t.irq.flag = 0x05 := by decide

/-- The pixels 0..7 of line 0 once it is rendered. -/
def pixels (s : State) : List Nat := ((s.renderLine.ppu.fb[0]).toList.take 8).map BitVec.toNat

/-- VRAM and OAM bytes, BGP and OBP0 over the reset state. -/
def drawing (m : Memory) (bgp obp0 : Byte) : State :=
  { State.reset with mem := m, ppu := { State.reset.ppu with bgp := bgp, obp0 := obp0 } }

/-- Rendering table, row 1: unsigned tile data. -/
theorem test_render_background : pixels (drawing [(0x8010, 0x0F), (0x8011, 0x33), (0x9800, 0x01)] 0xE4 0xFF) =
    [0, 0, 2, 2, 1, 1, 3, 3] := by decide +kernel

/-- Rendering table, row 5: one sprite over an empty background. -/
theorem test_render_sprite :
    pixels (drawing [(0x8020, 0xC0), (0x8021, 0x80), (0xFE00, 16), (0xFE01, 8), (0xFE02, 2)] 0xFC 0xE4) =
    [3, 1, 0, 0, 0, 0, 0, 0] := by decide +kernel

/-- The OAM DMA section: the copy lands with the 640th cycle. -/
theorem test_dma : let s := { State.reset with dma := ⟨0xC1, true, 636⟩, mem := [(0xC100, 0x5A), (0xC19F, 0xC5)] }
    (s.dmaUpdate 3).oam 0 = 0x00 ∧ (s.dmaUpdate 4).oam 0 = 0x5A ∧ (s.dmaUpdate 4).oam 159 = 0xC5 ∧
      (s.dmaUpdate 4).dma = ⟨0xC1, false, 0⟩ := by decide +kernel

/-- Vector V5: the last HBlank of the picture enters VBlank at LY 144 and requests it. -/
theorem test_vblank : let p := { State.reset.ppu with ly := 143, lyc := 5, mode := .hBlank, clock := 200 }
    let s := { State.reset with irq := ⟨0, 0⟩, ppu := p }
    (s.ppuUpdate 4).ppu.ly = 144 ∧ (s.ppuUpdate 4).ppu.mode = .vBlank ∧ (s.ppuUpdate 4).ppu.clock = 0 ∧
      (s.ppuUpdate 4).irq.flag = 0x01 := by decide +kernel

/-- A clock of 6 cycles a second, and parameters that are not the defaults. -/
def slow : State := { State.reset with params := { eiDelay := 3, diDelay := 2, haltWakePcDelta := 0, clockRate := 6 } }

/-- `advance` overruns by less than a step and keeps the difference: 1 second is 6 cycles, two NOPs (R142). -/
theorem test_advance : (match slow.advance 1 with
    | .next t => some (t.cpu.pc, t.budget)
    | .fault _ => none
    | .refused _ => none) = some (0x0102, -2) := by decide +kernel

/-- A part of a cycle is kept: three times a quarter of a second is 4.5 cycles, again two NOPs, 3.5 over (R142, D33). -/
theorem test_advance_fraction : (match slow.advance (1 / 4) with
    | .next t =>
      match t.advance (1 / 4) with
      | .next u => (match u.advance (1 / 4) with
        | .next v => some (t.cpu.pc, t.budget, u.budget, v.cpu.pc, v.budget)
        | .fault _ => none
        | .refused _ => none)
      | .fault _ => none
      | .refused _ => none
    | .fault _ => none
    | .refused _ => none) = some (0x0101, -5 / 2, -1, 0x0102, -7 / 2) := by decide +kernel

/-- The parameters of R6 reach EI, DI and the wake from HALT. -/
theorem test_parameters : let halted := { slow with cpu := { slow.cpu with halted := true, pc := 0xC001 }, irq := ⟨1, 1⟩ }
    (scheduleEi slow).cpu.imeEnableDelay = some 3 ∧ (scheduleDi slow).cpu.imeDisableDelay = some 2 ∧
      halted.haltWake.cpu.pc = 0xC001 := by decide

/-! ## Witnesses: a state and operands that meet the hypotheses of each statement -/

/-- Everything in WRAM at 0xC000, SP in WRAM. -/
def w0 : State := start [0xC3, 0x34, 0x12] { c0 with sp := 0xD000 } [] ⟨0, 0⟩

theorem witness_DecodeOfEncodeIsTheInstruction : (Instr.jpA16 0xFFFF).WellFormed = true := by decide

theorem witness_DecodedInstructionIsWellFormedAndItsOwnBytes :
    decode [0xCB, 0xFF, 0x12] = .ok (.set7_A, [0x12]) := rfl

theorem witness_StepRunsTheDecodedInstruction : w0.Runs ∧ (Instr.jpA16 0x1234).WellFormed = true ∧
    ∀ k, k < (encode (.jpA16 0x1234)).length →
      w0.peek (w0.cpu.pc + BitVec.ofNat 16 k) = (encode (.jpA16 0x1234)).getD k 0 := by
  refine ⟨by unfold State.Runs; decide, rfl, ?_⟩
  decide +kernel

theorem w0_inv : w0.Inv where
  params := by unfold Params.Legal; decide
  storage := by unfold State.StorageCanonical; decide
  cpu := by
    refine ⟨by decide, ?_, ?_⟩ <;> intro n h <;> exact absurd h (show ¬ none = some n by simp)
  ppu := by unfold State.PpuLegal; decide
  timer := by unfold State.TimerLegal; decide
  dma := by unfold State.DmaLegal; decide
  serial := by unfold State.SerialLegal; decide
  cart := by intro m h; cases h

theorem witness_EveryStepKeepsTheInvariant : w0.Inv ∧ ∃ t, step w0 = .next t := ⟨w0_inv, _, rfl⟩

/-- A header of the shortest image: type, ROM-size code, RAM-size code. -/
def image (kind size ram : Byte) : List Byte := List.replicate 0x147 0x00 ++ [kind, size, ram] ++ List.replicate 6 0x00

/-- An INIT_RAM that gives some locations a value. -/
def initRam : Config.InitRam := { Config.InitRam.default with wram := [0x11, 0x00, 0x22], hram := List.replicate 130 0x33, cram := [0x44] }

theorem constructed (kind size ram : Byte)
    (h : (State.construct slow.params initRam (image kind size ram)).isOk = true) :
    ∃ s, State.construct slow.params initRam (image kind size ram) = .ok s := by
  cases g : State.construct slow.params initRam (image kind size ram) with
  | ok s => exact ⟨s, rfl⟩
  | error e => rw [g] at h; cases h

theorem constructed_cart (kind size ram : Byte) {n : Nat}
    (h : (State.construct slow.params initRam (image kind size ram)).isOk = true)
    (g : (State.construct slow.params initRam (image kind size ram)).toOption.map (fun s => s.cart.ramSize) = some n) :
    ∃ s : State, (s = State.reset ∨ ∃ p r i, State.construct p r i = .ok s) ∧ s.cart.ramSize = n := by
  obtain ⟨s, hs⟩ := constructed kind size ram h
  rw [hs] at g
  injection g with g
  exact ⟨s, .inr ⟨_, _, _, hs⟩, g⟩

/-- INIT_RAM's bytes stand where they are read, and no further than the array goes (R50). -/
theorem test_init_ram : (State.construct slow.params initRam (image 0x01 0 1)).toOption.map (fun s =>
    (s.params, [0xC000, 0xC001, 0xE002, 0xFF80, 0xFFFE, 0xFFFF].map s.peek, Memory.read s.mem (cramCell 0))) =
    some (slow.params, [0x11, 0x00, 0x22, 0x33, 0x33, 0x00], 0x44) := by decide +kernel

theorem witness_EveryConstructedConsoleMeetsTheInvariant : Params.Legal slow.params ∧
    ∃ s, State.construct slow.params initRam (image 0x03 0 5) = .ok s :=
  ⟨by unfold Params.Legal; decide, constructed 0x03 0 5 (by decide +kernel)⟩

theorem witness_ResetGivesTheValuesOfTheResetTable : ∃ s : State,
    (s = State.reset ∨ ∃ p r i, State.construct p r i = .ok s) ∧ s.cart.ramSize = 0x10000 :=
  constructed_cart 0x01 0 5 (by decide +kernel) (by decide +kernel)

theorem witness_ConstructionReadsTheHeader : ([] : List Byte).length < 0x150 ∧ (image 0 0 0).length = 0x150 ∧
    (image 0x04 0 0)[0x147]? = some 0x04 ∧ (image 0x04 0 0)[0x149]? = some 0x00 ∧
    (image 0x03 0 6)[0x147]? = some 0x03 ∧ (image 0x03 0 6)[0x149]? = some 0x06 ∧
    (image 0x00 0 5)[0x147]? = some 0x00 ∧ (image 0x00 0 5)[0x149]? = some 0x05 := by decide +kernel

/-- An advance that takes steps, so that j < k has a j, and one that answers a state for a second call. -/
theorem witness_AdvanceSpendsItsBudget : (0 : Rat) ≤ 1 / 4 ∧ (∃ t, slow.advance (1 / 4) = .next t) ∧ runCost 0 slow = 0 ∧
    (0 : Rat) < slow.budget + 1 / 4 * slow.params.clockRate := by
  refine ⟨by decide +kernel, ?_, rfl, by decide +kernel⟩
  have h : (match slow.advance (1 / 4) with
    | .next _ => true
    | .fault _ => false
    | .refused _ => false) = true := by decide +kernel
  cases g : slow.advance (1 / 4) with
  | next t => exact ⟨t, rfl⟩
  | fault r => rw [g] at h; cases h
  | refused r => rw [g] at h; cases h

theorem witness_TheDiagnosticLogIsNeverRead : ∃ t, step (start [0xD3] c0 [] ⟨0, 0⟩) = .next t ∧ t.diag ≠ [] :=
  ⟨_, rfl, by decide⟩

theorem witness_SubSbcAndCpWriteDifferenceAndFlags : AluOp.sbc ∈ [AluOp.sub, .sbc, .cp] ∧ AluOp.cp ∈ [AluOp.sub, .sbc, .cp] := by
  decide

/-- The two clauses of a byte store: an address of the stored cell besides the address itself (its echo), and addresses
that the store does not touch. -/
theorem witness_StoresByte : w0.cellOf 0xC123 = some 0xC123 ∧ w0.cellOf 0xE123 = some 0xC123 ∧ ¬ w0.Touches 0xC123 0xC124 ∧
    ¬ w0.Touches 0x2000 0x8000 ∧ ¬ w0.Touches 0xFF02 0xFF01 ∧ ¬ w0.Touches 0xFEA0 0xFEA0 := by
  refine ⟨by decide, by decide, ?_, ?_, ?_, ?_⟩
  · rintro ⟨k, h, g⟩
    have h' : w0.cellOf 0xC123 = some 0xC123 := rfl
    have g' : w0.cellOf 0xC124 = some 0xC124 := rfl
    rw [h'] at h
    rw [g'] at g
    injection h with h
    injection g with g
    omega
  · exact (by decide : ¬ ((0x8000 : Word).toNat < 0x8000 ∨ (0xA000 ≤ (0x8000 : Word).toNat ∧ (0x8000 : Word).toNat < 0xC000)))
  · exact (by decide : ¬ ((0xFF01 : Word) = 0xFF02 ∨ (0xFF01 : Word) = 0xFF0F))
  · exact id

/-- The clauses of a word store: two cells, their bytes, and an address that neither write touches. -/
theorem witness_StoresWord : w0.cellOf 0xCFFE = some 0xCFFE ∧ w0.cellOf (0xCFFE + 1) = some 0xCFFF ∧ 0xCFFE ≠ 0xCFFF ∧
    ¬ w0.Touches 0xFEA0 0xC000 ∧ ¬ (w0.write8 0xFEA0 0x11).Touches (0xFEA0 + 1) 0xC000 :=
  ⟨rfl, rfl, by decide, id, id⟩

theorem witness_SixteenBitLoads : Pair.hl ≠ .sp := by decide

theorem witness_PairIncrementDecrementAndAdd : Pair.bc ≠ .sp := by decide

theorem witness_PopLoadsThePairAndClearsFLowNibble : StackPair.de ≠ .af ∧ StackPair.af = .af := by decide

theorem witness_CallsAndReturns : { w0 with cpu := { w0.cpu with f := 0x10 } }.cond .c = true ∧ w0.cond .c = false ∧
    w0.cond .nz = true := by decide

theorem witness_ReturnUndoesCallAndInterruptEntry : w0.cellOf (w0.cpu.sp - 2) = some 0xCFFE ∧ w0.cellOf (w0.cpu.sp - 1) = some 0xCFFF ∧
    0xCFFE ≠ 0xCFFF ∧ (∃ t, exec (.rst 7) w0 = .next t) ∧ (∃ t, exec (.callA16 0x1234) w0 = .next t) ∧
    w0.cond .nz = true ∧ ∃ t, exec (Instr.callCond .nz 0x1234) w0 = .next t :=
  ⟨rfl, rfl, by decide, ⟨_, rfl⟩, ⟨_, rfl⟩, by decide, _, rfl⟩

/-- Timer and Serial pending, IME as given. -/
def w1 (ime halted stopped : Bool) : State :=
  { w0 with cpu := { w0.cpu with ime := ime, halted := halted, stopped := stopped }, irq := ⟨0x0C, 0x1F⟩ }

/-- The second clause of ReturnUndoesCallAndInterruptEntry. -/
theorem witness_EntryAndReti : (w1 true true false).cellOf ((w1 true true false).cpu.sp - 2) = some 0xCFFE ∧
    (w1 true true false).cellOf ((w1 true true false).cpu.sp - 1) = some 0xCFFF := ⟨rfl, rfl⟩

theorem witness_InterruptEntry : (w1 true true false).cpu.stopped = false ∧ (w1 true true false).cpu.ime = true ∧
    (w1 true true false).nextTriggered = some .timer := by decide

theorem witness_WaitingSteps : (w1 true false true).cpu.stopped = true ∧ (w1 false true false).cpu.stopped = false ∧
    (w1 false true false).cpu.halted = true ∧ (w1 false true false).cpu.ime = false ∧
    (w1 false true false).nextTriggered ≠ none ∧ { w1 true true false with irq := ⟨0x1F, 0xE0⟩ }.nextTriggered = none := by
  decide

theorem witness_WaitingWithoutAnEnabledInterruptLastsForever :
    ({ w1 true true false with irq := ⟨0x1F, 0xE0⟩ }.cpu.halted = true ∧
      { w1 true true false with irq := ⟨0x1F, 0xE0⟩ }.irq.enable &&& 0x1F = 0) ∧
    { w1 true false true with irq := ⟨0x1F, 0xE0⟩ }.cpu.stopped = true := by decide

/-- IME changes by each of the three events: a service, RETI, a counter that fires. -/
theorem witness_OnlyTheListedEventsChangeIME :
    (∃ u t, (w1 true false false).stepBranch exec = .next u ∧ step (w1 true false false) = .next t ∧ t.cpu.ime ≠ true) ∧
    (∃ u t, (start [0xD9] c0 [] ⟨0, 0⟩).stepBranch exec = .next u ∧ step (start [0xD9] c0 [] ⟨0, 0⟩) = .next t ∧
      t.cpu.ime ≠ false) ∧
    (∃ u t, (start [0x00] { c0 with imeEnableDelay := some 1 } [] ⟨0, 0⟩).stepBranch exec = .next u ∧
      step (start [0x00] { c0 with imeEnableDelay := some 1 } [] ⟨0, 0⟩) = .next t ∧ t.cpu.ime ≠ false) :=
  ⟨⟨_, _, rfl, rfl, by decide⟩, ⟨_, _, rfl, rfl, by decide⟩, _, _, rfl, rfl, by decide⟩

/-- The tick's clauses: both counters at 1, and both above 1. -/
theorem witness_Tick : (∃ u, (start [0x00] { c0 with imeEnableDelay := some 1, imeDisableDelay := some 1 } [] ⟨0, 0⟩).stepBranch
      exec = .next u ∧ u.cpu.imeEnableDelay = some 1 ∧ u.cpu.imeDisableDelay = some 1) ∧
    ∃ u, (start [0x00] { c0 with imeEnableDelay := some 2, imeDisableDelay := some 3 } [] ⟨0, 0⟩).stepBranch exec = .next u ∧
      u.cpu.imeEnableDelay = some 2 ∧ u.cpu.imeDisableDelay = some 3 := ⟨⟨_, rfl, rfl, rfl⟩, _, rfl, rfl, rfl⟩

theorem witness_EiTakesEffectAfterTheNextInstruction : let s := start [0xFB, 0x00] c0 [] ⟨0x1F, 0x1F⟩
    s.params.eiDelay = 2 ∧ s.params.diDelay = 1 ∧ (start [0xF3] c0 [] ⟨0, 0⟩).peek 0xC000 = 0xF3 ∧
      s.Runs ∧ s.cpu.ime = false ∧ s.cpu.imeDisableDelay = none ∧ s.peek s.cpu.pc = 0xFB ∧
      (s.fetched 1).fetchInstr.1 ≠ .ei ∧ (s.fetched 1).fetchInstr.1 ≠ .di ∧
      ((start [0xFB, 0xF3] c0 [] ⟨0, 0⟩).fetched 1).fetchInstr.1 = .di ∧
      ((start [0xFB, 0xFB] c0 [] ⟨0, 0⟩).fetched 1).fetchInstr.1 = .ei := by
  refine ⟨rfl, rfl, by decide, by unfold State.Runs; decide, rfl, rfl, by decide, by decide, by decide, by decide, by decide⟩

/-- The ends of the echo, prohibited and audio regions, which no two clauses share. -/
theorem witness_EchoProhibitedAndAudioRegions : target 0xE000 = .echo 0 ∧ target 0xFDFF = .echo 0x1DFF ∧
    target 0xFEA0 = .prohibited ∧ target 0xFEFF = .prohibited ∧ target 0xFF10 = .audio ∧ target 0xFF3F = .audio ∧
    target 0xFF0F = .intFlag ∧ target 0xFF40 = .ppu .lcdc := by decide +kernel

/-- The ends of plain storage and of the unmapped addresses. -/
theorem witness_PlainStorageAndUnmappedAddresses : [0x8000, 0x9FFF, 0xC000, 0xDFFF, 0xFE00, 0xFE9F, 0xFF80, 0xFFFE].map
      (fun a => (State.reset.cellOf a).isSome) = [true, true, true, true, true, true, true, true] ∧
    [0xFF03, 0xFF0E, 0xFF4C, 0xFF7F].map target = [.unmapped, .unmapped, .unmapped, .unmapped] ∧
    ((0xC000 : Word) + 0x2000, (0xDDFF : Word) + 0x2000) = (0xE000, 0xFDFF) := by decide +kernel

theorem witness_SixteenBitValueReadsBackLittleEndian : w0.cellOf 0xFFFD = some 0xFFFD ∧ w0.cellOf (0xFFFD + 1) = some 0xFFFE ∧
    0xFFFD ≠ 0xFFFE := by decide

/-- An MBC1 cartridge with its RAM on, and the ends of the ranges. -/
theorem witness_CartridgeBanksItsWindows : let s := (banked [1] 6 0x8000).write8 0x0000 0x0A
    w0.cart.mapper = .romOnly ∧ s.cart.mapper = .mbc1 { Mbc1.reset with ramEnable := true } ∧ 0 < s.cart.ramSize ∧
      (banked [1] 6 0).cart.mapper = .mbc1 Mbc1.reset ∧ (0x1FFF : Word).toNat < 0x2000 ∧ 0x2000 ≤ (0x2000 : Word).toNat ∧
      (0x7FFF : Word).toNat < 0x8000 ∧ 0xA000 ≤ (0xA000 : Word).toNat ∧ (0xBFFF : Word).toNat < 0xC000 := by decide +kernel

theorem witness_DmaCopiesThePageAfter640Cycles : w0.dma.pending = false ∧
    { w0 with dma := ⟨0xC1, true, 636⟩ }.dma.pending = true ∧ { w0 with dma := ⟨0xC1, true, 636⟩ }.dma.counter + 3 < 640 ∧
    640 ≤ { w0 with dma := ⟨0xC1, true, 636⟩ }.dma.counter + 4 := by decide

theorem witness_NoInstructionWritesDeviceOwnedState : ∃ t, step w0 = .next t := ⟨_, rfl⟩

/-- Both states of the timer, and the ticks one below, at and above a wrap: TIMA 0xFE leaves 2. -/
theorem witness_TimerCountsCyclesAndReloads : (BitVec.getLsbD (0x01 : BitVec 3) 2) = false ∧
    (BitVec.getLsbD (0x05 : BitVec 3) 2) = true ∧ (0 + 31) / 16 < 256 - (0xFE : Byte).toNat ∧
    256 - (0xFE : Byte).toNat ≤ (0 + 32) / 16 := by decide

/-- A legal PPU state in each mode, at the lines where the transitions branch. -/
def w2 (ly : Byte) (mode : PpuMode) (clock : Nat) : State :=
  { w0 with ppu := { w0.ppu with ly := ly, mode := mode, clock := clock } }

theorem witness_PpuRunsThroughTheFrame : (w2 0 .oamSearch 79).PpuLegal ∧ (w2 143 .transfer 171).PpuLegal ∧
    (w2 142 .hBlank 203).PpuLegal ∧ (w2 143 .hBlank 203).PpuLegal ∧ (w2 152 .vBlank 455).PpuLegal ∧
    (w2 153 .vBlank 455).PpuLegal ∧ ∃ t, step (w2 143 .hBlank 203) = .next t :=
  by
  unfold State.PpuLegal
  exact ⟨by decide, by decide, by decide, by decide, by decide, by decide, _, rfl⟩

/-- Eleven sprites cover line 0; ten are drawn, the eleventh is not. -/
theorem witness_RenderLineComposesBackgroundAndSprites : let s := { w0 with mem := (List.range 11).map (fun k => (0xFE00 + 4 * k, 16)) }
    s.ppu.ly.toNat = (0 : Fin Config.screenHeight).val ∧ 9 ∈ s.spritesOnLine 0 ∧ 10 < 40 ∧ s.spriteCovers 0 10 = true ∧
      10 ∉ s.spritesOnLine 0 ∧ (1 : Fin Config.screenHeight) ≠ 0 := by decide +kernel

/-- A sprite that covers line 0 from column 0: an opaque pixel, a transparent one, and a column it does not reach. -/
theorem witness_SpriteClauses : let s := drawing [(0x8020, 0xC0), (0x8021, 0x80), (0xFE00, 16), (0xFE01, 8), (0xFE02, 2)] 0xFC 0xE4
    s.spriteCovers 0 0 = true ∧ s.spriteCovers 8 0 = false ∧ s.spriteAt 0 0 0 = some 3 ∧ s.spriteAt 0 2 0 = none ∧
      s.spriteAt 0 8 0 = none := by decide +kernel

theorem witness_LyCoincidenceRequestsLcdStat : 2 ≤ 2 ∧ (0x1F : BitVec 5).getLsbD 2 = true := by decide

theorem witness_SerialTransferCompletesInTheWrite : (0xFF : Byte) &&& 0x81 = 0x81 ∧ (0x80 : Byte) &&& 0x81 ≠ 0x81 := by decide

end Sys2Proof.Tests
end

section
/-! Echo RAM, the prohibited region and the audio stub: the diagnostic of an access by its target, and what a read and
a write through each region are (20_memory.md R62, R63, R65). -/

namespace Sys2Proof.Machine

variable {a : Word}

/-! ## The diagnostic of an access, by its target -/

theorem noteAccess_of_echo {off : Nat} (h : target a = .echo off) (s : State) : s.noteAccess a = s.logDiag (.echoAccess a) := by
  simp only [State.noteAccess, accessDiag, h]

theorem noteAccess_of_prohibited (h : target a = .prohibited) (s : State) :
    s.noteAccess a = s.logDiag (.prohibitedAccess a) := by
  simp only [State.noteAccess, accessDiag, h]

theorem noteAccess_of_wram {off : Nat} (h : target a = .wram off) (s : State) : s.noteAccess a = s := by
  simp only [State.noteAccess, accessDiag, h]

theorem noteAccess_of_audio (h : target a = .audio) (s : State) : s.noteAccess a = s := by
  simp only [State.noteAccess, accessDiag, h]

/-! ## The regions -/

/-- The echo at 0xE000..0xFDFF has the offsets of the WRAM 0x2000 below it. -/
theorem target_sub_of_echo (h : 0xE000 ≤ a.toNat) (g : a.toNat < 0xFE00) : target (a - 0x2000) = .wram (a.toNat - 0xE000) := by
  have hsub : (a - 0x2000).toNat = a.toNat - 0x2000 := by bv_omega
  rw [target_wram_of (by omega) (by omega), hsub, Nat.sub_sub]

theorem access_echo (s : State) (v : Byte) (h : 0xE000 ≤ a.toNat) (g : a.toNat < 0xFE00) :
    s.read8 a = (s.peek (a - 0x2000), s.logDiag (.echoAccess a)) ∧
      s.write8 a v = (s.logDiag (.echoAccess a)).write8 (a - 0x2000) v := by
  have echo := target_echo_of h g
  have wram := target_sub_of_echo h g
  constructor
  · simp only [State.read8, State.peek, noteAccess_of_echo echo, echo, wram, State.readTarget]
  · simp only [State.write8, noteAccess_of_echo echo, noteAccess_of_wram wram, echo, wram, State.writeTarget]

theorem access_prohibited (s : State) (v : Byte) (h : target a = .prohibited) :
    s.read8 a = (0xFF, s.logDiag (.prohibitedAccess a)) ∧ s.write8 a v = s.logDiag (.prohibitedAccess a) := by
  constructor
  · simp only [State.read8, State.peek, noteAccess_of_prohibited h, h, State.readTarget]
  · simp only [State.write8, noteAccess_of_prohibited h, h, State.writeTarget]

theorem access_audio (s : State) (v : Byte) (h : target a = .audio) : s.read8 a = (0x00, s) ∧ s.write8 a v = s := by
  constructor
  · simp only [State.read8, State.peek, noteAccess_of_audio h, h, State.readTarget]
  · simp only [State.write8, noteAccess_of_audio h, h, State.writeTarget]

/-- Settles O48: the bounds of each range give its target, and the target gives the access. -/
theorem echoProhibitedAndAudioRegions : Obligations.EchoProhibitedAndAudioRegions := by
  intro s a v
  refine ⟨fun h g => ?_, fun h g => ?_, fun h g => ?_⟩
  · exact access_echo s v h (Nat.lt_succ_of_le g)
  · exact access_prohibited s v (target_prohibited_of h (Nat.lt_succ_of_le g))
  · exact access_audio s v (target_audio_of h g)

end Sys2Proof.Machine
end

section
/-! The opcode maps read by their fields (30_encoding.md R117..R120, R125): the row that each index of an operand selects,
and how `decode` reads each kind of row. -/

namespace Sys2Proof

open Machine

/-! ## Decoding by the kind of row -/

theorem decode_plain {op : Byte} {i : Instr} (h : baseRow op = .plain i) (rest : List Byte) :
    decode (op :: rest) = .ok (i, rest) := by
  simp [decode, h]

theorem decode_byte {op : Byte} {f : Byte → Instr} (h : baseRow op = .imm8 f) (v : Byte) (rest : List Byte) :
    decode (op :: v :: rest) = .ok (f v, rest) := by
  simp [decode, h]

theorem decode_escape (cb : Byte) (rest : List Byte) : decode (0xCB :: cb :: rest) = .ok (cbRow cb, rest) := rfl

/-! ## The CB map by operation or bit, and operand (R120) -/

theorem cbRow_shiftInstr (o : ShiftOp) (p : Place) : cbRow (opByte (8 * o.index + p.index)) = shiftInstr o p := by
  cases p with
  | reg r => cases o <;> cases r <;> rfl
  | memHL => cases o <;> rfl

theorem cbRow_bitInstr (n : Fin 8) (p : Place) : cbRow (opByte (0x40 + 8 * n.val + p.index)) = bitInstr n p := by
  cases p with
  | reg r => fin_cases n <;> cases r <;> rfl
  | memHL => fin_cases n <;> rfl

theorem cbRow_resInstr (n : Fin 8) (p : Place) : cbRow (opByte (0x80 + 8 * n.val + p.index)) = resInstr n p := by
  cases p with
  | reg r => fin_cases n <;> cases r <;> rfl
  | memHL => fin_cases n <;> rfl

theorem cbRow_setInstr (n : Fin 8) (p : Place) : cbRow (opByte (0xC0 + 8 * n.val + p.index)) = setInstr n p := by
  cases p with
  | reg r => fin_cases n <;> cases r <;> rfl
  | memHL => fin_cases n <;> rfl

/-! ## The base map by pair (R117) -/

theorem baseRow_ldPairImm (p : Pair) : baseRow (opByte (0x01 + 16 * p.index)) = .imm16 (Instr.ldPairImm p) := by
  cases p <;> rfl

theorem baseRow_incPair (p : Pair) : baseRow (opByte (0x03 + 16 * p.index)) = .plain (Instr.incPair p) := by
  cases p <;> rfl

theorem baseRow_decPair (p : Pair) : baseRow (opByte (0x0B + 16 * p.index)) = .plain (Instr.decPair p) := by
  cases p <;> rfl

theorem baseRow_addHLPair (p : Pair) : baseRow (opByte (0x09 + 16 * p.index)) = .plain (Instr.addHLPair p) := by
  cases p <;> rfl

theorem baseRow_pushPair (q : StackPair) : baseRow (opByte (0xC5 + 16 * q.index)) = .plain (Instr.pushPair q) := by
  cases q <;> rfl

theorem baseRow_popPair (q : StackPair) : baseRow (opByte (0xC1 + 16 * q.index)) = .plain (Instr.popPair q) := by
  cases q <;> rfl

/-! ## The base map by condition (R118) -/

theorem baseRow_jrCond (cc : Cond) : baseRow (opByte (0x20 + 8 * cc.index)) = .imm8 (Instr.jrCond cc) := by
  cases cc <;> rfl

theorem baseRow_jpCond (cc : Cond) : baseRow (opByte (0xC2 + 8 * cc.index)) = .imm16 (Instr.jpCond cc) := by
  cases cc <;> rfl

theorem baseRow_callCond (cc : Cond) : baseRow (opByte (0xC4 + 8 * cc.index)) = .imm16 (Instr.callCond cc) := by
  cases cc <;> rfl

theorem baseRow_retCond (cc : Cond) : baseRow (opByte (0xC0 + 8 * cc.index)) = .plain (Instr.retCond cc) := by
  cases cc <;> rfl

/-- What each condition tests: Z is bit 7 of F, C is bit 4. -/
theorem cond_iff_flagBit (s : State) :
    (s.cond .nz = true ↔ s.cpu.f.getLsbD 7 = false) ∧ (s.cond .z = true ↔ s.cpu.f.getLsbD 7 = true) ∧
      (s.cond .nc = true ↔ s.cpu.f.getLsbD 4 = false) ∧ (s.cond .c = true ↔ s.cpu.f.getLsbD 4 = true) := by
  simp [State.cond]

/-! ## The base map by ALU operation and operand (R119) -/

theorem baseRow_aluReg (op : AluOp) (r : Reg8) :
    baseRow (opByte (0x80 + 8 * op.index + r.index)) = .plain (Instr.aluReg op r) := by
  cases op <;> cases r <;> rfl

theorem baseRow_aluMem (op : AluOp) : baseRow (opByte (0x86 + 8 * op.index)) = .plain (Instr.aluMem op) := by
  cases op <;> rfl

theorem baseRow_aluImm (op : AluOp) : baseRow (opByte (0xC6 + 8 * op.index)) = .imm8 (Instr.aluImm op) := by
  cases op <;> rfl

theorem decode_aluBytes (op : AluOp) (src : Source) : decode (aluBytes op src) = .ok (aluInstr op src, []) := by
  cases src with
  | reg r => exact decode_plain (baseRow_aluReg op r) []
  | memHL => exact decode_plain (baseRow_aluMem op) []
  | imm v => exact decode_byte (baseRow_aluImm op) v []

/-! ## The undefined opcodes (R125) -/

theorem baseRow_undefinedOp (k : Fin 11) : baseRow (Instr.undefinedByte k) = .plain (Instr.undefinedOp k) := by
  fin_cases k <;> rfl

/-- Each undefined opcode is its one byte: the encoder agrees with its row of the base map. -/
theorem encode_undefinedOp (k : Fin 11) : encode (Instr.undefinedOp k) = [Instr.undefinedByte k] := by
  have agrees := baseRow_agrees (Instr.undefinedByte k)
  rw [baseRow_undefinedOp] at agrees
  exact agrees.2

/-! ## The statements -/

/-- Settles O3: past the escape `decode` answers the CB row, which the fields select. -/
theorem cbByteFieldsSelectOperationAndOperand : Obligations.CbByteFieldsSelectOperationAndOperand := by
  refine ⟨fun o p => ?_, fun n p => ?_, fun n p => ?_, fun n p => ?_, fun cb => ⟨cbRow cb, decode_escape cb []⟩⟩
  · rw [decode_escape, cbRow_shiftInstr]
  · rw [decode_escape, cbRow_bitInstr]
  · rw [decode_escape, cbRow_resInstr]
  · rw [decode_escape, cbRow_setInstr]

/-- Settles O4: the row that each index selects, decoded by its kind. -/
theorem basePageFieldsSelectPairsConditionsAndOperations :
    Obligations.BasePageFieldsSelectPairsConditionsAndOperations := by
  refine ⟨fun p w => ⟨?_, ?_, ?_, ?_⟩, fun q => ⟨?_, ?_⟩, fun cc e w => ⟨?_, ?_, ?_, ?_⟩, cond_iff_flagBit, decode_aluBytes⟩
  · exact decode_word (baseRow_ldPairImm p) w []
  · exact decode_plain (baseRow_incPair p) []
  · exact decode_plain (baseRow_decPair p) []
  · exact decode_plain (baseRow_addHLPair p) []
  · exact decode_plain (baseRow_pushPair q) []
  · exact decode_plain (baseRow_popPair q) []
  · exact decode_byte (baseRow_jrCond cc) e []
  · exact decode_word (baseRow_jpCond cc) w []
  · exact decode_word (baseRow_callCond cc) w []
  · exact decode_plain (baseRow_retCond cc) []

/-- Settles O40: each is one byte, and its meaning is one log entry at 4 cycles. -/
theorem undefinedOpcodesAreNoOpsWithADiagnostic : Obligations.UndefinedOpcodesAreNoOpsWithADiagnostic := by
  refine ⟨by decide, fun k s => ⟨encode_undefinedOp k, ?_⟩⟩
  rw [exec_undefinedOp]
  rfl

end Sys2Proof
end

section
/-! Loads, stores and stack transfers (41_loads.md R160..R184). The bytes come from the instruction's row of the base map,
the meaning from its shared operation (Laws/Exec.lean), the effect from that operation's specification
(Laws/Operations.lean), read at the step's cost. -/

namespace Sys2Proof

open Machine

/-! ## The bytes of a row of the base map -/

theorem encode_of_plainRow {op : Byte} {i : Instr} (h : baseRow op = .plain i) : encode i = [op] := by
  have agrees := baseRow_agrees op
  rw [h] at agrees
  exact agrees.2

theorem encode_of_imm8Row {op : Byte} {f : Byte → Instr} (h : baseRow op = .imm8 f) (v : Byte) : encode (f v) = [op, v] := by
  have agrees := baseRow_agrees op
  rw [h] at agrees
  exact (agrees v).2

theorem encode_of_imm16Row {op : Byte} {f : Word → Instr} (h : baseRow op = .imm16 f) (w : Word) :
    encode (f w) = [op, loByte w, hiByte w] := by
  have agrees := baseRow_agrees op
  rw [h] at agrees
  exact (agrees w).2

/-! ## The base map by register (R116) -/

theorem baseRow_ldRegReg (dst src : Reg8) :
    baseRow (opByte (0x40 + 8 * dst.index + src.index)) = .plain (Instr.ldRegReg dst src) := by
  cases dst <;> cases src <;> rfl

theorem baseRow_ldRegMem (dst : Reg8) : baseRow (opByte (0x46 + 8 * dst.index)) = .plain (Instr.ldRegMem dst) := by
  cases dst <;> rfl

theorem baseRow_ldRegImm (dst : Reg8) : baseRow (opByte (0x06 + 8 * dst.index)) = .imm8 (Instr.ldRegImm dst) := by
  cases dst <;> rfl

theorem baseRow_ldMemReg (src : Reg8) : baseRow (opByte (0x70 + src.index)) = .plain (Instr.ldMemReg src) := by
  cases src <;> rfl

/-! ## One load or store of A

`exec i s = finish n (…)` says which shared operation the instruction i is, at which address and cost. -/

section
variable {i : Instr} {s : State} {n : Nat}

theorem completes_of_loadAFrom {a : Word} (meaning : exec i s = finish n (loadAFrom a s)) :
    ∃ t, exec i s = .next t ∧ t.cycles = n ∧ t.cpu.a = s.peek a ∧ t.hl = s.hl ∧ SameFPcSp s t ∧
      ReadFrame s t [.a] [a] :=
  ⟨_, meaning, rfl, loadAFrom_spec a s n⟩

theorem completes_of_loadAStep {d : HlStep} (meaning : exec i s = finish n (loadAStep d s)) :
    ∃ t, exec i s = .next t ∧ t.cycles = n ∧ t.cpu.a = s.peek s.hl ∧ t.hl = d.apply s.hl ∧ SameFPcSp s t ∧
      ReadFrame s t [.a, .h, .l] [s.hl] :=
  ⟨_, meaning, rfl, loadAStep_spec d s n⟩

/-- A store leaves HL, since it leaves every register. -/
theorem completes_of_storeATo {a : Word} (meaning : exec i s = finish n (storeATo a s)) :
    ∃ t, exec i s = .next t ∧ t.cycles = n ∧ StoresByte s t [] a s.cpu.a ∧ t.hl = s.hl ∧ SameFPcSp s t ∧
      SameRegs s t [] ∧ SameControl s t := by
  obtain ⟨stores, rest⟩ := write8_spec s a s.cpu.a n
  exact ⟨_, meaning, rfl, stores, State.write8_hl s a s.cpu.a, rest⟩

theorem completes_of_storeAStep {d : HlStep} (meaning : exec i s = finish n (storeAStep d s)) :
    ∃ t, exec i s = .next t ∧ t.cycles = n ∧ StoresByte s t [] s.hl s.cpu.a ∧ t.hl = d.apply s.hl ∧ SameFPcSp s t ∧
      SameRegs s t [.h, .l] ∧ SameControl s t :=
  ⟨_, meaning, rfl, storeAStep_spec d s n⟩

end

/-! ## The high page (R121) -/

theorem exec_ldhA_MemA8 (n : Byte) (s : State) :
    exec (.ldhA_MemA8 n) s = finish 12 (loadAFrom (0xFF00 + n.zeroExtend 16) s) := by
  rw [← highPage_eq]
  rfl

theorem exec_ldA_MemC (s : State) : exec .ldA_MemC s = finish 8 (loadAFrom (0xFF00 + s.cpu.c.zeroExtend 16) s) := by
  rw [← highPage_eq]
  rfl

theorem exec_ldhMemA8_A (n : Byte) (s : State) :
    exec (.ldhMemA8_A n) s = finish 12 (storeATo (0xFF00 + n.zeroExtend 16) s) := by
  rw [← highPage_eq]
  rfl

theorem exec_ldMemC_A (s : State) : exec .ldMemC_A s = finish 8 (storeATo (0xFF00 + s.cpu.c.zeroExtend 16) s) := by
  rw [← highPage_eq]
  rfl

/-! ## The statements -/

/-- Settles O14: one register write, by `loadRegReg_spec`. -/
theorem loadRegisterFromRegister : Obligations.LoadRegisterFromRegister := by
  intro dst src s
  exact ⟨encode_of_plainRow (baseRow_ldRegReg dst src), _, exec_ldRegReg dst src s, rfl, loadRegReg_spec dst src s 4⟩

/-- Settles O15: one register write, of the byte read at the old HL or of the immediate. -/
theorem loadRegisterFromMemoryOrImmediate : Obligations.LoadRegisterFromMemoryOrImmediate := by
  refine ⟨fun dst s => ?_, fun dst v s => ?_⟩
  · exact ⟨encode_of_plainRow (baseRow_ldRegMem dst), _, exec_ldRegMem dst s, rfl, loadRegMem_spec dst s 8⟩
  · exact ⟨encode_of_imm8Row (baseRow_ldRegImm dst) v, _, exec_ldRegImm dst v s, rfl, loadRegImm_spec dst v s 8⟩

/-- Settles O16: one bus write at HL and nothing else, by `write8_spec`. -/
theorem storeRegisterOrImmediateAtHL : Obligations.StoreRegisterOrImmediateAtHL := by
  refine ⟨fun src s => ?_, fun v s => ?_⟩
  · exact ⟨encode_of_plainRow (baseRow_ldMemReg src), _, exec_ldMemReg src s, rfl, write8_spec s s.hl (s.getReg src) 8⟩
  · exact ⟨rfl, _, rfl, rfl, write8_spec s s.hl v 12⟩

/-- Settles O17: five rows load A from an address, two from HL with HL stepped after. -/
theorem loadAccumulatorFromMemory : Obligations.LoadAccumulatorFromMemory := by
  intro s n w r row
  simp only [List.mem_cons, List.not_mem_nil, or_false] at row
  obtain rfl | rfl | rfl | rfl | rfl | rfl | rfl := row
  · exact ⟨rfl, completes_of_loadAFrom (a := s.bc) rfl⟩
  · exact ⟨rfl, completes_of_loadAFrom (a := s.de) rfl⟩
  · exact ⟨rfl, completes_of_loadAStep (d := .up) rfl⟩
  · exact ⟨rfl, completes_of_loadAStep (d := .down) rfl⟩
  · exact ⟨rfl, completes_of_loadAFrom (a := w) rfl⟩
  · exact ⟨rfl, completes_of_loadAFrom (exec_ldhA_MemA8 n s)⟩
  · exact ⟨rfl, completes_of_loadAFrom (exec_ldA_MemC s)⟩

/-- Settles O18: five rows store A at an address, two at HL with HL stepped after. -/
theorem storeAccumulatorToMemory : Obligations.StoreAccumulatorToMemory := by
  intro s n w r row
  simp only [List.mem_cons, List.not_mem_nil, or_false] at row
  obtain rfl | rfl | rfl | rfl | rfl | rfl | rfl := row
  · exact ⟨rfl, completes_of_storeATo (a := s.bc) rfl⟩
  · exact ⟨rfl, completes_of_storeATo (a := s.de) rfl⟩
  · exact ⟨rfl, completes_of_storeAStep (d := .up) rfl⟩
  · exact ⟨rfl, completes_of_storeAStep (d := .down) rfl⟩
  · exact ⟨rfl, completes_of_storeATo (a := w) rfl⟩
  · exact ⟨rfl, completes_of_storeATo (exec_ldhMemA8_A n s)⟩
  · exact ⟨rfl, completes_of_storeATo (exec_ldMemC_A s)⟩

/-- Settles O19: a pair written, SP stored as two bytes, and SP written as the pair that it is. -/
theorem sixteenBitLoads : Obligations.SixteenBitLoads := by
  refine ⟨fun p w s => ?_, fun w s => ?_, fun s => ?_⟩
  · exact ⟨encode_of_imm16Row (baseRow_ldPairImm p) w, _, exec_ldPairImm p w s, rfl, setPair_spec p w s 12⟩
  · exact ⟨rfl, _, rfl, rfl, storeSp_spec w s 20⟩
  · obtain ⟨sp, f, pc, -, frame⟩ := setPair_spec .sp s.hl s 8
    exact ⟨rfl, _, rfl, rfl, sp, f, pc, frame⟩

/-- Settles O20: a push of the pair, by `push16_spec`. -/
theorem pushStoresThePairBelowSP : Obligations.PushStoresThePairBelowSP := by
  intro q s
  exact ⟨encode_of_plainRow (baseRow_pushPair q), _, exec_pushPair q s, rfl, push16_spec s (s.getStackPair q) 16⟩

/-- Settles O21: a pop into the pair, by `popPair_spec`. -/
theorem popLoadsThePairAndClearsFLowNibble : Obligations.PopLoadsThePairAndClearsFLowNibble := by
  intro q s
  exact ⟨encode_of_plainRow (baseRow_popPair q), _, exec_popPair q s, rfl, popPair_spec q s 12⟩

end Sys2Proof
end

section
/-! 8-bit arithmetic and logic (42_alu8.md R200..R235). The bytes come from the instruction's row of the base map, the
meaning from its shared operation (Laws/Exec.lean), the frame from that operation's specification (Laws/Operations.lean);
what is proved here is that the pure flag functions of Machine/Flags.lean compute the rules' arithmetic over the integers. -/

namespace Sys2Proof

open Machine

/-! ## The bytes (R116, R119) -/

theorem encode_aluInstr (op : AluOp) (src : Source) : encode (aluInstr op src) = aluBytes op src := by
  cases src with
  | reg r => exact encode_of_plainRow (baseRow_aluReg op r)
  | memHL => exact encode_of_plainRow (baseRow_aluMem op)
  | imm v => exact encode_of_imm8Row (baseRow_aluImm op) v

theorem baseRow_incInstr (p : Place) : baseRow (opByte (0x04 + 8 * p.index)) = .plain (incInstr p) := by
  cases p with
  | reg r => cases r <;> rfl
  | memHL => rfl

theorem baseRow_decInstr (p : Place) : baseRow (opByte (0x05 + 8 * p.index)) = .plain (decInstr p) := by
  cases p with
  | reg r => cases r <;> rfl
  | memHL => rfl

/-! ## Bytes as integers modulo 256 -/

theorem ofNat_byte_beq_zero (n : Nat) : (BitVec.ofNat 8 n == 0) = decide (n % 256 = 0) := by
  rw [beq_eq_decide, decide_eq_decide, ← BitVec.toNat_inj]
  simp

theorem ofInt_byte_beq_zero (d : Int) : (BitVec.ofInt 8 d == 0) = decide (d % 256 = 0) := by
  rw [beq_eq_decide, decide_eq_decide, ← BitVec.toNat_inj, BitVec.toNat_ofInt]
  change (d % 256).toNat = 0 ↔ d % 256 = 0
  omega

theorem lowNibble_ofInt (d : Int) : (lowNibble (BitVec.ofInt 8 d) : Int) = d % 16 := by
  rw [lowNibble, BitVec.toNat_ofInt]
  omega

theorem ofInt_byte_sub (x y : Int) : BitVec.ofInt 8 (x - y) = BitVec.ofInt 8 x - BitVec.ofInt 8 y := by
  rw [Int.sub_eq_add_neg, BitVec.ofInt_add, BitVec.ofInt_neg, BitVec.sub_eq_add_neg]

/-! ## The flag functions over the integers -/

theorem add8_eq (a v : Byte) (cin : Bool) : add8 a v cin =
    (BitVec.ofNat 8 (a.toNat + v.toNat + bitVal cin),
      { z := (a.toNat + v.toNat + bitVal cin) % 256 = 0, n := false,
        h := 0xF < a.toNat % 16 + v.toNat % 16 + bitVal cin, c := 0xFF < a.toNat + v.toNat + bitVal cin }) := by
  rw [← ofNat_byte_beq_zero]
  rfl

theorem sub8_eq (a v : Byte) (cin : Bool) : sub8 a v cin =
    (BitVec.ofInt 8 (a.toNat - v.toNat - bitVal cin),
      { z := ((a.toNat : Int) - v.toNat - bitVal cin) % 256 = 0, n := true,
        h := (a.toNat : Int) % 16 - (v.toNat : Int) % 16 - bitVal cin < 0, c := (a.toNat : Int) - v.toNat - bitVal cin < 0 }) := by
  rw [← ofInt_byte_beq_zero]
  rfl

/-- ADC adds the carry, ADD does not (R203, R206). -/
theorem alu_add (withCarry : Bool) (a v : Byte) (c : Bool) :
    alu (if withCarry then .adc else .add) a v c = add8 a v (withCarry && c) := by
  cases withCarry <;> rfl

/-- SBC subtracts the carry, SUB and CP do not; CP discards the difference (R209, R212, R224). -/
theorem alu_sub (op : AluOp) (a v : Byte) (c : Bool) (h : op ∈ [AluOp.sub, .sbc, .cp]) :
    alu op a v c =
      (if op = .cp then a else (sub8 a v (decide (op = .sbc ∧ c = true))).1, (sub8 a v (decide (op = .sbc ∧ c = true))).2) := by
  simp only [List.mem_cons, List.not_mem_nil, or_false] at h
  obtain rfl | rfl | rfl := h
  · rfl
  · simp [alu]
  · rfl

theorem byte_add_one_eq_zero (v : Byte) : v + 1 = 0 ↔ v = 0xFF := by
  bv_omega

theorem byte_sub_one_eq_zero (v : Byte) : v - 1 = 0 ↔ v = 0x01 := by
  bv_omega

theorem inc8_eq (v : Byte) (f : Flags) :
    inc8 v f = (v + 1, { z := v = 0xFF, n := false, h := v.toNat % 16 = 15, c := f.c }) := by
  simp only [inc8, beq_eq_decide, byte_add_one_eq_zero, lowNibble]

theorem dec8_eq (v : Byte) (f : Flags) :
    dec8 v f = (v - 1, { z := v = 0x01, n := true, h := v.toNat % 16 = 0, c := f.c }) := by
  simp only [dec8, beq_eq_decide, byte_sub_one_eq_zero, lowNibble]

/-! ## DAA over the integers (R231) -/

/-- A after the first of R231's two corrections, the one by 0x60. -/
def daaHigh (a : Int) (f : Flags) : Int :=
  if f.n then (if f.c then a - 0x60 else a) else (if f.c = true ∨ 0x99 < a then a + 0x60 else a)

/-- A after both corrections; the second, by 0x06, looks at what the first left. -/
def daaResult (a : Int) (f : Flags) : Int :=
  if f.n then (if f.h then daaHigh a f - 0x06 else daaHigh a f)
  else (if f.h = true ∨ 9 < daaHigh a f % 16 then daaHigh a f + 0x06 else daaHigh a f)

theorem daaSub_eq (a : Byte) (f : Flags) (hn : f.n = true) :
    daaSub a f = (BitVec.ofInt 8 (daaResult a.toNat f), f.c) := by
  have high : (if f.c then a - 0x60 else a) = BitVec.ofInt 8 (daaHigh a.toNat f) := by
    simp [daaHigh, hn, apply_ite (BitVec.ofInt 8), ofInt_byte_sub]
  simp only [daaSub, high, daaResult, hn, if_true, apply_ite (BitVec.ofInt 8), ofInt_byte_sub]
  rfl

theorem daaAdd_eq (a : Byte) (f : Flags) (hn : f.n = false) :
    daaAdd a f = (BitVec.ofInt 8 (daaResult a.toNat f), decide (f.c = true ∨ 0x99 < (a.toNat : Int))) := by
  have carry : (f.c || decide (0x99 < a.toNat)) = decide (f.c = true ∨ 0x99 < (a.toNat : Int)) := by
    simp
  have high : (if f.c = true ∨ 0x99 < (a.toNat : Int) then a + 0x60 else a) = BitVec.ofInt 8 (daaHigh a.toNat f) := by
    simp [daaHigh, hn, apply_ite (BitVec.ofInt 8), BitVec.ofInt_add]
  have low : 9 < lowNibble (BitVec.ofInt 8 (daaHigh a.toNat f)) ↔ 9 < daaHigh a.toNat f % 16 := by
    rw [← lowNibble_ofInt]
    norm_cast
  simp only [daaAdd, carry, decide_eq_true_eq, high, low, daaResult, hn, Bool.or_eq_true, Bool.false_eq_true, if_false,
    apply_ite (BitVec.ofInt 8), BitVec.ofInt_add]
  rfl

theorem daa8_eq (a : Byte) (f : Flags) : daa8 a f =
    (BitVec.ofInt 8 (daaResult a.toNat f),
      { z := daaResult a.toNat f % 256 = 0, n := f.n, h := false,
        c := if f.n then f.c else f.c = true ∨ 0x99 < (a.toNat : Int) }) := by
  rw [← ofInt_byte_beq_zero]
  cases hn : f.n with
  | true => simp only [daa8, hn, if_true, daaSub_eq]
  | false => simp only [daa8, hn, Bool.false_eq_true, if_false, daaAdd_eq]

/-! ## One instruction that writes A or the flags only

What an instruction leaves, once its result and its flags are these values. -/

section
variable {s : State} {v : Byte} {z n h c : Bool}

theorem completes_of_alu {op : AluOp} {src : Source}
    (result : alu op s.cpu.a (src.value s) s.flags.c = (v, { z := z, n := n, h := h, c := c })) :
    ∃ t, exec (aluInstr op src) s = .next t ∧ t.cycles = src.cost ∧ t.cpu.a = v ∧ SetsFlags s t z n h c ∧
      ReadFrame s t [.a] (src.reads s) := by
  obtain ⟨a, flags, low, pc, sp, frame⟩ := aluFrom_spec op src s src.cost
  rw [result] at a flags
  exact ⟨_, exec_aluInstr op src s, rfl, a, ⟨flags, low, pc, sp⟩, frame⟩

theorem completes_of_setA_setFlags {i : Instr} {k : Nat}
    (meaning : exec i s = finish k ((s.setReg .a v).setFlags { z := z, n := n, h := h, c := c })) :
    ∃ t, exec i s = .next t ∧ t.cycles = k ∧ t.cpu.a = v ∧ SetsFlags s t z n h c ∧ ReadFrame s t [.a] [] := by
  obtain ⟨a, flags, low, pc, sp, frame⟩ := setA_setFlags_spec v { z := z, n := n, h := h, c := c } s k
  exact ⟨_, meaning, rfl, a, ⟨flags, low, pc, sp⟩, frame⟩

theorem completes_of_setFlags {i : Instr} {k : Nat}
    (meaning : exec i s = finish k (s.setFlags { z := z, n := n, h := h, c := c })) :
    ∃ t, exec i s = .next t ∧ t.cycles = k ∧ SetsFlags s t z n h c ∧ ReadFrame s t [] [] := by
  obtain ⟨flags, low, pc, sp, frame⟩ := setFlags_spec { z := z, n := n, h := h, c := c } s k
  exact ⟨_, meaning, rfl, ⟨flags, low, pc, sp⟩, frame⟩

end

/-- Where A keeps its value, it need not be listed as changed. -/
theorem readFrame_of_a_kept {s t : State} {reads : List Word} (frame : ReadFrame s t [.a] reads)
    (kept : t.cpu.a = s.cpu.a) : ReadFrame s t [] reads := by
  obtain ⟨regs, rest⟩ := frame
  refine ⟨fun r _ => ?_, rest⟩
  by_cases isA : r = .a
  · rw [isA]
    exact kept
  · exact regs r (by simpa using isA)

/-! ## The statements -/

/-- Settles O22: `alu` is `add8` with the carry that the operation takes in, and `add8` is the unbounded sum. -/
theorem addAndAdcWriteSumAndFlags : Obligations.AddAndAdcWriteSumAndFlags := by
  intro withCarry src s
  exact ⟨encode_aluInstr _ src, completes_of_alu ((alu_add ..).trans (add8_eq ..))⟩

/-- Settles O23: `alu` is `sub8` with the borrow that the operation takes in, and `sub8` is the difference over the
integers; CP keeps A. -/
theorem subSbcAndCpWriteDifferenceAndFlags : Obligations.SubSbcAndCpWriteDifferenceAndFlags := by
  intro op src s mem a v cin
  have borrow : (bitVal (decide (op = .sbc ∧ s.flags.c = true)) : Int) = cin := by
    simp [bitVal, cin, State.flags, Flags.ofByte]
  have result := alu_sub op s.cpu.a (src.value s) s.flags.c mem
  rw [sub8_eq, borrow] at result
  obtain ⟨t, meaning, cost, value, flags, frame⟩ := completes_of_alu result
  refine ⟨encode_aluInstr op src, t, meaning, cost, fun notCp => ?_, flags, ?_⟩
  · rwa [if_neg notCp] at value
  · split
    next isCp => exact readFrame_of_a_kept frame (by rwa [if_pos isCp] at value)
    next => exact frame

/-- Settles O24: the three operations are the bitwise functions with constant N, H and C. -/
theorem andXorOrWriteResultAndFlags : Obligations.AndXorOrWriteResultAndFlags := by
  intro src s r row
  simp only [List.mem_cons, List.not_mem_nil, or_false] at row
  obtain rfl | rfl | rfl := row
  · exact ⟨encode_aluInstr .and src, completes_of_alu rfl⟩
  · exact ⟨encode_aluInstr .xor src, completes_of_alu rfl⟩
  · exact ⟨encode_aluInstr .or src, completes_of_alu rfl⟩

/-- Settles O25: `inc8` and `dec8` written back to the operand they were read from. -/
theorem incAndDecOfAByte : Obligations.IncAndDecOfAByte := by
  intro p s
  constructor
  · have meaning := exec_incInstr p s
    rw [incPlace_eq, inc8_eq] at meaning
    exact ⟨encode_of_plainRow (baseRow_incInstr p), _, meaning, rfl, writePlace_setFlags_spec s p _ _ _⟩
  · have meaning := exec_decInstr p s
    rw [decPlace_eq, dec8_eq] at meaning
    exact ⟨encode_of_plainRow (baseRow_decInstr p), _, meaning, rfl, writePlace_setFlags_spec s p _ _ _⟩

/-- Settles O26: DAA by `daa8_eq`; the other three write constants or complements of what A and F hold. -/
theorem accumulatorAdjustAndFlagOperations : Obligations.AccumulatorAdjustAndFlagOperations := by
  intro s
  have daa : exec .daa s = finish 4 ((s.setReg .a (daa8 s.cpu.a s.flags).1).setFlags (daa8 s.cpu.a s.flags).2) := rfl
  rw [daa8_eq] at daa
  refine ⟨⟨rfl, ?_⟩, ⟨rfl, ?_⟩, ⟨rfl, ?_⟩, rfl, ?_⟩
  · exact completes_of_setA_setFlags daa
  · exact completes_of_setA_setFlags rfl
  · exact completes_of_setFlags rfl
  · exact completes_of_setFlags rfl

end Sys2Proof
end

section
/-! 16-bit arithmetic (43_alu16.md R250..R255). INC and DEC write a pair and nothing else (`setPair_spec`); the others write
HL or SP, then the flags. What is proved here is that `add16` and `spPlusE8` compute the rules' sums, and what the write of
SP with the flags leaves unchanged. -/

namespace Sys2Proof

open Machine

/-! ## The sums -/

theorem add16_eq (a b : Word) (f : Flags) : add16 a b f =
    (a + b, { z := f.z, n := false, h := 0x0FFF < a.toNat % 0x1000 + b.toNat % 0x1000,
              c := 0xFFFF < a.toNat + b.toNat }) := by
  rw [BitVec.add_def]
  rfl

/-- Adding the sign-extended byte modulo 65,536 is adding the signed byte over the integers. -/
theorem add_sext8 (w : Word) (e : Byte) : w + sext8 e = BitVec.ofInt 16 (w.toNat + e.toInt) := by
  rw [BitVec.ofInt_add, BitVec.ofInt_natCast, BitVec.ofNat_toNat, BitVec.setWidth_eq]
  rfl

theorem spPlusE8_eq (sp : Word) (e : Byte) : spPlusE8 sp e =
    (BitVec.ofInt 16 (sp.toNat + e.toInt),
      { z := false, n := false, h := 0x0F < sp.toNat % 16 + e.toNat % 16,
        c := 0xFF < sp.toNat % 256 + e.toNat }) := by
  rw [← add_sext8]
  rfl

/-! ## One instruction that writes SP or HL, then the flags -/

/-- SP is written, then the flags, and nothing else: `ADD SP,e8`. -/
theorem setSp_setFlags_spec (w : Word) (f : Flags) (s : State) (n : Nat) :
    let t := ((s.setSp w).setFlags f).setCycles n
    t.cpu.sp = w ∧ t.flags = f ∧ t.cpu.f &&& 0x0F = 0 ∧ t.cpu.pc = s.cpu.pc ∧ ReadFrame s t [] [] := by
  refine ⟨?_, ?_, toByte_f0_low _, ?_, ?_⟩
  all_goals simp [ReadFrame, SameRegs, SameControl, SameDevices, SameBytes, Logged]

theorem completes_of_setHl_setFlags {i : Instr} {s : State} {k : Nat} {w : Word} {z n h c : Bool}
    (meaning : exec i s = finish k ((s.setHl w).setFlags { z := z, n := n, h := h, c := c })) :
    ∃ t, exec i s = .next t ∧ t.cycles = k ∧ t.hl = w ∧ SetsFlags s t z n h c ∧ ReadFrame s t [.h, .l] [] := by
  obtain ⟨hl, flags, low, pc, sp, frame⟩ := setHl_setFlags_spec w { z := z, n := n, h := h, c := c } s k
  exact ⟨_, meaning, rfl, hl, ⟨flags, low, pc, sp⟩, frame⟩

/-! ## The statements -/

/-- Settles O27: INC and DEC are one write of the pair; ADD HL,rr writes `add16`, which is the sum modulo 65,536. -/
theorem pairIncrementDecrementAndAdd : Obligations.PairIncrementDecrementAndAdd := by
  intro p s
  refine ⟨⟨?_, ?_⟩, ⟨?_, ?_⟩, ?_, ?_⟩
  · exact encode_of_plainRow (baseRow_incPair p)
  · exact ⟨_, exec_incPair p s, rfl, setPair_spec p (s.getPair p + 1) s 8⟩
  · exact encode_of_plainRow (baseRow_decPair p)
  · exact ⟨_, exec_decPair p s, rfl, setPair_spec p (s.getPair p - 1) s 8⟩
  · exact encode_of_plainRow (baseRow_addHLPair p)
  · have meaning := exec_addHLPair p s
    rw [addHlPair, add16_eq] at meaning
    exact completes_of_setHl_setFlags meaning

/-- Settles O28: both instructions write `spPlusE8`, which is the signed sum with the flags of the unsigned low bytes. -/
theorem addSignedByteToSP : Obligations.AddSignedByteToSP := by
  intro e s sum h c
  have toSp : exec (.addSP_e8 e) s = finish 16 (addSp e s) := rfl
  have toHl : exec (.ldHL_SPe8 e) s = finish 12 (loadHlSp e s) := rfl
  rw [addSp, spPlusE8_eq] at toSp
  rw [loadHlSp, spPlusE8_eq] at toHl
  exact ⟨⟨rfl, _, toSp, rfl, setSp_setFlags_spec sum ⟨false, false, h, c⟩ s 16⟩, rfl, completes_of_setHl_setFlags toHl⟩

end Sys2Proof
end

section
/-! Rotates and shifts (44_rotate_shift.md R270..R290). The bytes come from the CB map, the meaning from the one shared
operation (Laws/Exec.lean), the frame from that operation's specification (Laws/Operations.lean). What is proved here is
that each row of R274's table is a sum of the operand's two parts, which share no bit, and that the bit moved out is the
operand's high half or its parity. -/

namespace Sys2Proof

open Machine

/-! ## The bytes (R120) -/

theorem encode_shiftInstr (o : ShiftOp) (p : Place) :
    encode (shiftInstr o p) = [0xCB, opByte (8 * o.index + p.index)] := by
  rw [← cbRow_shiftInstr]
  exact (cbRow_agrees _).2

/-! ## Shifted bytes over the natural numbers -/

theorem ofNat_byte_congr {m n : Nat} (h : m % 256 = n % 256) : BitVec.ofNat 8 m = BitVec.ofNat 8 n :=
  BitVec.eq_of_toNat_eq h

theorem ushiftRight_toNat (v : Byte) (k : Nat) : (v >>> k).toNat = v.toNat / 2 ^ k := by
  rw [BitVec.toNat_ushiftRight, Nat.shiftRight_eq_div_pow]

theorem shiftLeft_eq_ofNat (v : Byte) (k : Nat) : v <<< k = BitVec.ofNat 8 (2 ^ k * v.toNat) := by
  apply BitVec.eq_of_toNat_eq
  rw [BitVec.toNat_shiftLeft, Nat.shiftLeft_eq, Nat.mul_comm, BitVec.toNat_ofNat]

theorem shiftLeft_or_eq_ofNat (v : Byte) {low : Byte} {k : Nat} (fits : low.toNat < 2 ^ k) :
    v <<< k ||| low = BitVec.ofNat 8 (2 ^ k * v.toNat + low.toNat) := by
  rw [Nat.two_pow_add_eq_or_of_lt fits, BitVec.ofNat_or, ← shiftLeft_eq_ofNat, BitVec.ofNat_toNat, BitVec.setWidth_eq]

/-- A shift right by one leaves bit 7 free for bit 0 of the other byte. -/
theorem shiftRight_or_eq_ofNat (v high : Byte) :
    v >>> 1 ||| high <<< 7 = BitVec.ofNat 8 (v.toNat / 2 + 128 * high.toNat) := by
  have half : (v >>> 1).toNat = v.toNat / 2 := ushiftRight_toNat v 1
  rw [BitVec.or_comm, shiftLeft_or_eq_ofNat high (by omega), half, Nat.add_comm]
  rfl

theorem bit7_eq (v : Byte) : v.getLsbD 7 = decide (128 ≤ v.toNat) := BitVec.getLsbD_last v

theorem bit0_eq (v : Byte) : v.getLsbD 0 = decide (v.toNat % 2 = 1) := Nat.testBit_zero v.toNat

theorem carryIn_toNat (cin : Bool) : (BitVec.ofNat 8 (bitVal cin)).toNat = bitVal cin := by
  cases cin <;> rfl

/-! ## The rows of the shift table (R274) -/

section
variable (v : Byte) (cin : Bool)

theorem shift_rlc : shift .rlc v cin = (BitVec.ofNat 8 (2 * v.toNat + v.toNat / 128), decide (128 ≤ v.toNat)) := by
  have out : (v >>> 7).toNat = v.toNat / 128 := ushiftRight_toNat v 7
  rw [shift, shiftLeft_or_eq_ofNat v (by omega), out, bit7_eq]
  rfl

theorem shift_rrc :
    shift .rrc v cin = (BitVec.ofNat 8 (v.toNat / 2 + 128 * (v.toNat % 2)), decide (v.toNat % 2 = 1)) := by
  rw [shift, shiftRight_or_eq_ofNat, bit0_eq]
  congr 1
  exact ofNat_byte_congr (by omega)

theorem shift_rl : shift .rl v cin = (BitVec.ofNat 8 (2 * v.toNat + bitVal cin), decide (128 ≤ v.toNat)) := by
  have fits : (BitVec.ofNat 8 (bitVal cin)).toNat < 2 ^ 1 := by cases cin <;> decide
  rw [shift, shiftLeft_or_eq_ofNat v fits, carryIn_toNat, bit7_eq]
  rfl

theorem shift_rr : shift .rr v cin = (BitVec.ofNat 8 (v.toNat / 2 + 128 * bitVal cin), decide (v.toNat % 2 = 1)) := by
  rw [shift, shiftRight_or_eq_ofNat, carryIn_toNat, bit0_eq]

theorem shift_sla : shift .sla v cin = (BitVec.ofNat 8 (2 * v.toNat), decide (128 ≤ v.toNat)) := by
  rw [shift, shiftLeft_eq_ofNat, bit7_eq]
  rfl

/-- Bit 7 alone is the byte shifted right by 7 and back. -/
theorem shift_sra :
    shift .sra v cin = (BitVec.ofNat 8 (v.toNat / 2 + 128 * (v.toNat / 128)), decide (v.toNat % 2 = 1)) := by
  have sign : v &&& (0x80 : Byte) = (v >>> 7) <<< 7 := by
    rw [BitVec.shiftLeft_ushiftRight]
    rfl
  rw [shift, sign, shiftRight_or_eq_ofNat, ushiftRight_toNat, bit0_eq]
  rfl

theorem shift_swap : shift .swap v cin = (BitVec.ofNat 8 (16 * (v.toNat % 16) + v.toNat / 16), false) := by
  have high : (v >>> 4).toNat = v.toNat / 16 := ushiftRight_toNat v 4
  rw [shift, shiftLeft_or_eq_ofNat v (by omega), high]
  congr 1
  exact ofNat_byte_congr (by omega)

theorem shift_srl : shift .srl v cin = (BitVec.ofNat 8 (v.toNat / 2), decide (v.toNat % 2 = 1)) := by
  have half : (v >>> 1).toNat = v.toNat / 2 := ushiftRight_toNat v 1
  rw [shift, ← half, BitVec.ofNat_toNat, BitVec.setWidth_eq, bit0_eq]

end

/-! ## One rotate or shift

What an instruction leaves, once the table's row for its operand is this result and this carry. -/

section
variable {o : ShiftOp} {s : State} {c : Bool}

theorem completes_of_rotateA {i : Instr} {v : Byte} (meaning : exec i s = finish 4 (rotateA o s))
    (row : shift o s.cpu.a s.flags.c = (v, c)) :
    ∃ t, exec i s = .next t ∧ t.cycles = 4 ∧ t.cpu.a = v ∧ SetsFlags s t false false false c ∧
      ReadFrame s t [.a] [] := by
  rw [rotateA, row] at meaning
  exact completes_of_setA_setFlags meaning

theorem completes_of_shift {p : Place} {n : Nat} (row : shift o (p.value s) s.flags.c = (BitVec.ofNat 8 n, c)) :
    ∃ t, exec (shiftInstr o p) s = .next t ∧ t.cycles = p.cost 8 16 ∧ WritesPlace s t p (BitVec.ofNat 8 n) ∧
      SetsFlags s t (n % 256 = 0) false false c := by
  have meaning := exec_shiftInstr o p s
  rw [shiftPlace_eq, row, shiftFlags, ofNat_byte_beq_zero] at meaning
  exact ⟨_, meaning, rfl, writePlace_setFlags_spec s p _ _ _⟩

end

/-! ## The statements -/

/-- Settles O29: the four rotates of the table, with the flags that `rotateAFlags` writes in place of the table's. -/
theorem accumulatorRotatesClearZ : Obligations.AccumulatorRotatesClearZ := by
  intro s a c r row
  simp only [List.mem_cons, List.not_mem_nil, or_false] at row
  obtain rfl | rfl | rfl | rfl := row
  · exact ⟨rfl, completes_of_rotateA rfl (shift_rlc ..)⟩
  · exact ⟨rfl, completes_of_rotateA rfl (shift_rrc ..)⟩
  · exact ⟨rfl, completes_of_rotateA rfl (shift_rl ..)⟩
  · exact ⟨rfl, completes_of_rotateA rfl (shift_rr ..)⟩

/-- Settles O30: the first four rows of the table, written back to the operand they were read from. -/
theorem cbRotates : Obligations.CbRotates := by
  intro p s v c r row
  simp only [List.mem_cons, List.not_mem_nil, or_false] at row
  refine ⟨encode_shiftInstr r.1 p, ?_⟩
  obtain rfl | rfl | rfl | rfl := row
  · exact completes_of_shift (shift_rlc ..)
  · exact completes_of_shift (shift_rrc ..)
  · exact completes_of_shift (shift_rl ..)
  · exact completes_of_shift (shift_rr ..)

/-- Settles O31: the last four rows of the table, written back to the operand they were read from. -/
theorem cbShiftsAndSwap : Obligations.CbShiftsAndSwap := by
  intro p s v r row
  simp only [List.mem_cons, List.not_mem_nil, or_false] at row
  refine ⟨encode_shiftInstr r.1 p, ?_⟩
  obtain rfl | rfl | rfl | rfl := row
  · exact completes_of_shift (shift_sla ..)
  · exact completes_of_shift (shift_sra ..)
  · exact completes_of_shift (shift_swap ..)
  · exact completes_of_shift (shift_srl ..)

end Sys2Proof
end

section
/-! Single bits (45_bit_ops.md R300..R305). The bytes come from the CB map, the meaning from the one shared operation of each
instruction (Laws/Exec.lean), the effect from that operation's specification (Laws/Operations.lean): BIT reads its operand
and writes flags, RES and SET read their operand and write it back. -/

namespace Sys2Proof

open Machine

/-! ## The bytes (R120) -/

theorem encode_of_cbRow {cb : Byte} {i : Instr} (h : cbRow cb = i) : encode i = [0xCB, cb] := by
  rw [← h]
  exact (cbRow_agrees cb).2

/-! ## One RES or SET

What an instruction leaves, once its meaning is that its operand is read and this byte is written back. -/

theorem completes_of_writePlace {i : Instr} {s : State} {k : Nat} {p : Place} {v : Byte}
    (meaning : exec i s = finish k ((s.readPlace p).2.writePlace p v)) :
    ∃ t, exec i s = .next t ∧ t.cycles = k ∧ WritesPlace s t p v ∧ SameFPcSp s t :=
  ⟨_, meaning, rfl, writePlace_spec s p v k⟩

/-! ## The statements -/

/-- Settles O32: the flags that `testBit` writes are the complement of the bit, two constants and the old C. -/
theorem bitTestsOneBit : Obligations.BitTestsOneBit := by
  intro n p s
  obtain ⟨flags, low, pc, sp, frame⟩ := testBit_spec n p s (p.cost 8 12)
  exact ⟨encode_of_cbRow (cbRow_bitInstr n p), _, exec_bitInstr n p s, rfl, ⟨flags, low, pc, sp⟩, frame⟩

/-- Settles O33: the operand with the bit's mask cleared or set, written back to where it was read from, whether or not it
differs. -/
theorem resAndSetWriteOneBit : Obligations.ResAndSetWriteOneBit := by
  intro n p s
  rw [← bitMask_eq]
  constructor
  · have meaning := exec_resInstr n p s
    rw [resetBit_eq] at meaning
    exact ⟨encode_of_cbRow (cbRow_resInstr n p), completes_of_writePlace meaning⟩
  · have meaning := exec_setInstr n p s
    rw [setBit_eq] at meaning
    exact ⟨encode_of_cbRow (cbRow_setInstr n p), completes_of_writePlace meaning⟩

end Sys2Proof
end

section
/-! Jumps, calls and returns (46_control.md R320..R331). The bytes come from the instruction's row of the base map, the
meaning from its shared operation (Laws/Exec.lean), the effect from that operation's specification (Laws/Operations.lean).
What is proved here is how a condition selects between the transfer and going on: a jump writes PC either way, and a call or
return not taken is the step's cost alone. -/

namespace Sys2Proof

open Machine

theorem baseRow_rst (y : Fin 8) : baseRow (opByte (0xC7 + 8 * y.val)) = .plain (Instr.rst y) := by
  fin_cases y <;> rfl

/-! ## A condition taken and not taken (R320) -/

/-- A jump not taken writes the PC that is there. -/
theorem jumpIf_eq (cc : Cond) (w : Word) (s : State) : jumpIf cc w s = s.setPc (if s.cond cc then w else s.cpu.pc) := by
  unfold jumpIf
  split <;> rfl

theorem jumpRel_eq (e : Byte) (s : State) : jumpRel e s = s.setPc (BitVec.ofInt 16 (s.cpu.pc.toNat + e.toInt)) := by
  rw [← add_sext8]
  rfl

theorem jumpRelIf_eq (cc : Cond) (e : Byte) (s : State) :
    jumpRelIf cc e s = s.setPc (if s.cond cc then BitVec.ofInt 16 (s.cpu.pc.toNat + e.toInt) else s.cpu.pc) := by
  rw [← add_sext8]
  exact jumpIf_eq cc (s.cpu.pc + sext8 e) s

section
variable {s : State} {cc : Cond}

theorem exec_callCond_taken (taken : s.cond cc = true) (w : Word) :
    exec (Instr.callCond cc w) s = finish 24 (callTo w s) := by
  rw [exec_callCond, takenCost, callIf, if_pos taken, if_pos taken]

theorem exec_callCond_notTaken (notTaken : s.cond cc = false) (w : Word) :
    exec (Instr.callCond cc w) s = finish 12 s := by
  simp [exec_callCond, takenCost, callIf, notTaken]

theorem exec_retCond_taken (taken : s.cond cc = true) : exec (Instr.retCond cc) s = finish 20 (returnTo s) := by
  rw [exec_retCond, takenCost, returnIf, if_pos taken, if_pos taken]

theorem exec_retCond_notTaken (notTaken : s.cond cc = false) : exec (Instr.retCond cc) s = finish 8 s := by
  simp [exec_retCond, takenCost, returnIf, notTaken]

end

/-! ## One transfer

What an instruction leaves, once its meaning is this write of PC, call or return. -/

section
variable {i : Instr} {s : State} {n : Nat} {w : Word}

theorem completes_of_setPc (meaning : exec i s = finish n (s.setPc w)) :
    ∃ t, exec i s = .next t ∧ t.cycles = n ∧ t.cpu.pc = w ∧ t.cpu.f = s.cpu.f ∧ t.cpu.sp = s.cpu.sp ∧
      ReadFrame s t [] [] :=
  ⟨_, meaning, rfl, setPc_spec w s n⟩

theorem completes_of_callTo (meaning : exec i s = finish n (callTo w s)) :
    ∃ t, exec i s = .next t ∧ t.cycles = n ∧ t.cpu.pc = w ∧ t.cpu.sp = s.cpu.sp - 2 ∧
      StoresWord s t (s.cpu.sp - 2) s.cpu.pc ∧ t.cpu.f = s.cpu.f ∧ SameRegs s t [] ∧ SameControl s t :=
  ⟨_, meaning, rfl, callTo_spec w s n⟩

theorem completes_of_returnTo (meaning : exec i s = finish n (returnTo s)) :
    ∃ t, exec i s = .next t ∧ t.cycles = n ∧ t.cpu.pc = mkWord (s.peek (s.cpu.sp + 1)) (s.peek s.cpu.sp) ∧
      t.cpu.sp = s.cpu.sp + 2 ∧ t.cpu.f = s.cpu.f ∧ ReadFrame s t [] [s.cpu.sp, s.cpu.sp + 1] :=
  ⟨_, meaning, rfl, returnTo_spec s n⟩

end

/-! ## The statements -/

/-- Settles O34: each jump, taken or not, is one write of PC. -/
theorem jumpsSetPC : Obligations.JumpsSetPC := by
  intro s cc w e near r row
  simp only [List.mem_cons, List.not_mem_nil, or_false] at row
  obtain rfl | rfl | rfl | rfl | rfl := row
  · exact ⟨rfl, completes_of_setPc rfl⟩
  · have meaning := exec_jpCond cc w s
    rw [jumpIf_eq] at meaning
    exact ⟨encode_of_imm16Row (baseRow_jpCond cc) w, completes_of_setPc meaning⟩
  · exact ⟨rfl, completes_of_setPc rfl⟩
  · exact ⟨rfl, completes_of_setPc (congrArg (finish 12) (jumpRel_eq e s))⟩
  · have meaning := exec_jrCond cc e s
    rw [jumpRelIf_eq] at meaning
    exact ⟨encode_of_imm8Row (baseRow_jrCond cc) e, completes_of_setPc meaning⟩

/-- Settles O35: CALL, RST and a CALL cc that is taken are `callTo`; one not taken leaves the state with its cost set. -/
theorem callsAndRestartsPushThePC : Obligations.CallsAndRestartsPushThePC := by
  have bytes cc w := encode_of_imm16Row (baseRow_callCond cc) w
  refine ⟨fun s cc w y r row => ?_, fun s cc w notTaken => ⟨bytes cc w, exec_callCond_notTaken notTaken w⟩⟩
  simp only [List.mem_append, List.mem_cons, List.not_mem_nil, or_false, List.mem_ite_nil_right] at row
  obtain (rfl | rfl) | ⟨taken, rfl⟩ := row
  · exact ⟨rfl, completes_of_callTo rfl⟩
  · exact ⟨encode_of_plainRow (baseRow_rst y), completes_of_callTo (exec_rst y s)⟩
  · exact ⟨bytes cc w, completes_of_callTo (exec_callCond_taken taken w)⟩

/-- Settles O36: RET and a RET cc that is taken are `returnTo`; one not taken leaves the state with its cost set. -/
theorem returnsPopThePC : Obligations.ReturnsPopThePC := by
  refine fun s => ⟨⟨rfl, completes_of_returnTo rfl⟩, fun cc => ⟨?_, fun taken => ?_, fun notTaken => ?_⟩⟩
  · exact encode_of_plainRow (baseRow_retCond cc)
  · exact completes_of_returnTo (exec_retCond_taken taken)
  · exact exec_retCond_notTaken notTaken

end Sys2Proof
end

section
/-! The CB escape (47_cpu_control.md R355). `decode` answers the CB row of the second byte, and that row and the escape both
mean `runCb` (Laws/Decode.lean, Laws/Exec.lean); what is proved here is the costs that `runCb` can have. -/

namespace Sys2Proof

open Machine

theorem placeCost_eq_or (p : Place) (reg mem : Nat) : placeCost p reg mem = reg ∨ placeCost p reg mem = mem := by
  cases p with
  | reg r => exact .inl rfl
  | memHL => exact .inr rfl

/-- Each of the four families of the CB map costs 8 on a register, and 12 (BIT) or 16 on the byte at HL. -/
theorem runCb_completes (cb : Byte) (s : State) : ∃ t, runCb cb s = .next t ∧ t.cycles ∈ [8, 12, 16] := by
  have cost16 p : placeCost p 8 16 ∈ [8, 12, 16] := by
    obtain h | h := placeCost_eq_or p 8 16 <;> simp [h]
  have cost12 p : placeCost p 8 12 ∈ [8, 12, 16] := by
    obtain h | h := placeCost_eq_or p 8 12 <;> simp [h]
  unfold runCb
  dsimp only
  split
  · exact ⟨_, rfl, cost16 _⟩
  · exact ⟨_, rfl, cost12 _⟩
  · exact ⟨_, rfl, cost16 _⟩
  · exact ⟨_, rfl, cost16 _⟩

/-- Settles O41: the escape and the CB row of its second byte are both `runCb` of that byte. -/
theorem prefixRunsTheCbRow : Obligations.PrefixRunsTheCbRow := by
  intro cb s
  obtain ⟨t, completes, cost⟩ := runCb_completes cb s
  exact ⟨rfl, cbRow cb, t, decode_escape cb [], (exec_cbRow cb s).trans completes,
    (exec_prefixCb cb s).trans completes, cost⟩

end Sys2Proof
end

section
/-! The selection of an interrupt (60_exceptions.md R402). `nextTriggered` searches the five sources in the order of their
indices for the first pending one, so what the library proves of a search in a list says what is selected. -/

namespace Sys2Proof

open Machine

/-! ## The sources in the order of their indices (R400) -/

/-- The five sources, highest priority first. -/
def irqSources : List IrqSource := [.vBlank, .lcdStat, .timer, .serial, .joypad]

theorem mem_irqSources (i : IrqSource) : i ∈ irqSources := by cases i <;> decide

theorem index_lt_length (i : IrqSource) : i.index < irqSources.length := by cases i <;> decide

theorem irqSources_index (i : IrqSource) : irqSources[i.index]'(index_lt_length i) = i := by cases i <;> rfl

theorem index_irqSources : ∀ (k : Nat) (h : k < irqSources.length), irqSources[k].index = k := by decide

/-! ## The pending sources -/

/-- A source is pending when its bit is set in both masks; only bits 4 to 0 of IE belong to a source. -/
theorem pendingMask_index (s : State) (i : IrqSource) : s.pendingMask.getLsbD i.index = true ↔
    s.irq.enable.getLsbD i.index = true ∧ s.irq.flag.getLsbD i.index = true := by
  have fits : i.index < 5 := index_lt_length i
  simp [State.pendingMask, fits]

/-- A search in a list, written as the `if` chain of the model. -/
theorem find?_cons_eq_ite {α : Type} (p : α → Bool) (a : α) (as : List α) :
    (a :: as).find? p = if p a = true then some a else as.find? p := by
  cases h : p a <;> simp [h]

/-- `next_triggered()` is the first pending source of the list. -/
theorem nextTriggered_eq_find? (s : State) :
    s.nextTriggered = irqSources.find? (fun i => s.pendingMask.getLsbD i.index) := by
  simp only [irqSources, find?_cons_eq_ite, List.find?_nil]
  rfl

theorem nextTriggered_eq_none_iff (s : State) :
    s.nextTriggered = none ↔ ∀ j : IrqSource, ¬ s.pendingMask.getLsbD j.index = true := by
  rw [nextTriggered_eq_find?, List.find?_eq_none]
  exact ⟨fun h j => h j (mem_irqSources j), fun h j _ => h j⟩

theorem nextTriggered_eq_some_iff (s : State) (i : IrqSource) :
    s.nextTriggered = some i ↔ s.pendingMask.getLsbD i.index = true ∧
      ∀ j : IrqSource, j.index < i.index → ¬ s.pendingMask.getLsbD j.index = true := by
  rw [nextTriggered_eq_find?, List.find?_eq_some_iff_getElem]
  refine and_congr_right fun _ => ⟨?_, fun least => ?_⟩
  · rintro ⟨k, hk, rfl, least⟩ j before
    rw [index_irqSources k hk] at before
    simpa [irqSources_index] using least j.index before
  · refine ⟨i.index, index_lt_length i, irqSources_index i, fun k before => ?_⟩
    have hk : k < irqSources.length := before.trans (index_lt_length i)
    simpa using least irqSources[k] (by rwa [index_irqSources k hk])

/-- Settles O42: the first pending source of the list is the one of the lowest index. -/
theorem lowestPendingIndexIsSelected : Obligations.LowestPendingIndexIsSelected := by
  intro s
  simp only [← and_assoc, ← pendingMask_index]
  exact ⟨nextTriggered_eq_some_iff s, nextTriggered_eq_none_iff s⟩

end Sys2Proof
end

section
/-! The round trip of the encoding (30_encoding.md R110, R111, R126). A well-formed instruction has its place in the maps
(`Instr.placed`) and each cell of the maps agrees with the encoder (`baseRow_agrees`, `cbRow_agrees`), so both directions are
read off the kind of row. -/

namespace Sys2Proof

/-! ## From an instruction to its bytes and back -/

theorem decode_of_placed {i : Instr} (place : Placed i) (rest : List Byte) : decode (encode i ++ rest) = .ok (i, rest) := by
  cases place with
  | plain op row bytes =>
    rw [bytes]
    exact decode_plain row rest
  | imm8 op f v row eq bytes =>
    rw [bytes, eq]
    exact decode_byte row v rest
  | imm16 op f w row eq bytes =>
    rw [bytes, eq]
    exact decode_word row w rest
  | escape cb row bytes =>
    rw [bytes, ← row]
    exact decode_escape cb rest

/-- Settles O1: the place of an instruction in the maps gives its bytes, and the decoder finds that place again. -/
theorem decodeOfEncodeIsTheInstruction : Obligations.DecodeOfEncodeIsTheInstruction :=
  fun i rest wellFormed => decode_of_placed (i.placed wellFormed) rest

/-! ## From bytes to an instruction and back -/

/-- What a read instruction owes to the bytes it was read from. -/
def ReadFrom (bytes : List Byte) (i : Instr) (rest : List Byte) : Prop := i.WellFormed = true ∧ encode i ++ rest = bytes

section
variable {op : Byte} {rest : List Byte}

theorem readFrom_plain {i : Instr} (row : baseRow op = .plain i) : ReadFrom (op :: rest) i rest := by
  have agrees := baseRow_agrees op
  rw [row] at agrees
  obtain ⟨wellFormed, bytes⟩ := agrees
  exact ⟨wellFormed, by rw [bytes]; rfl⟩

theorem readFrom_byte {f : Byte → Instr} (row : baseRow op = .imm8 f) (v : Byte) : ReadFrom (op :: v :: rest) (f v) rest := by
  have agrees := baseRow_agrees op
  rw [row] at agrees
  obtain ⟨wellFormed, bytes⟩ := agrees v
  exact ⟨wellFormed, by rw [bytes]; rfl⟩

theorem readFrom_word {f : Word → Instr} (row : baseRow op = .imm16 f) (lo hi : Byte) :
    ReadFrom (op :: lo :: hi :: rest) (f (mkWord hi lo)) rest := by
  have agrees := baseRow_agrees op
  rw [row] at agrees
  obtain ⟨wellFormed, bytes⟩ := agrees (mkWord hi lo)
  exact ⟨wellFormed, by rw [bytes, loByte_mkWord, hiByte_mkWord]; rfl⟩

theorem readFrom_escape (row : baseRow op = .escape) (cb : Byte) : ReadFrom (op :: cb :: rest) (cbRow cb) rest := by
  have agrees : op = 0xCB := by simpa [row, RowAgrees] using baseRow_agrees op
  obtain ⟨wellFormed, bytes⟩ := cbRow_agrees cb
  exact ⟨wellFormed, by rw [bytes, agrees]; rfl⟩

end

/-- Where the decoder answers, it has read a row of one of the maps with as many bytes as that kind of row has. -/
theorem readFrom_of_decode {bytes rest : List Byte} {i : Instr} (h : decode bytes = .ok (i, rest)) :
    ReadFrom bytes i rest := by
  unfold decode at h
  split at h
  · cases h
  · split at h <;> cases h
    case h_1 row => exact readFrom_plain row
    case h_2 row => exact readFrom_byte row _
    case h_3 row => exact readFrom_word row _ _
    case h_4 row => exact readFrom_escape row _

/-- Three bytes are enough for every row: the instruction takes as many of them as its row has. -/
theorem decode_three (op b1 b2 : Byte) (rest : List Byte) : ∃ i,
    decode (op :: b1 :: b2 :: rest) = .ok (i, (op :: b1 :: b2 :: rest).drop (instrLength op)) := by
  unfold instrLength
  cases row : baseRow op with
  | plain i => exact ⟨i, decode_plain row _⟩
  | imm8 f => exact ⟨f b1, decode_byte row b1 _⟩
  | imm16 f => exact ⟨f (mkWord b2 b1), by simp [decode, row]⟩
  | escape => exact ⟨cbRow b1, by simp [decode, row]⟩

theorem instrLength_bounds (op : Byte) : 1 ≤ instrLength op ∧ instrLength op ≤ 3 := by
  unfold instrLength
  cases baseRow op <;> simp

/-- Settles O2: the row that was read agrees with the encoder; the length follows from the bytes that are left. -/
theorem decodedInstructionIsWellFormedAndItsOwnBytes : Obligations.DecodedInstructionIsWellFormedAndItsOwnBytes := by
  refine ⟨fun bytes i rest h => readFrom_of_decode h, fun op b1 b2 rest => ?_⟩
  obtain ⟨i, h⟩ := decode_three op b1 b2 rest
  obtain ⟨low, high⟩ := instrLength_bounds op
  obtain ⟨-, bytes⟩ := readFrom_of_decode h
  have lengths := congrArg List.length bytes
  simp only [List.length_append, List.length_drop, List.length_cons] at lengths
  exact ⟨i, h, by omega, low, high⟩

/-- Settles O5: each word's row is found by computation. -/
theorem sampleWordsDecode : Obligations.SampleWordsDecode := by
  refine ⟨?_, ?_, ?_, ?_, ?_, ?_, ?_, ?_, ?_, ?_, ?_, ?_, ?_⟩ <;> rfl

end Sys2Proof
end

section
/-! One step, said once (40_step_engine.md R140, R141): every state takes one, what is kept on the way to the end of its
branch, and the same for the whole step. -/

namespace Sys2Proof.Machine

/-- A property of states that the meanings, the waiting steps and an interrupt's entry keep. -/
structure BranchClosed (P : State → Prop) : Prop where
  cpu : ∀ {t : State} {c : Cpu}, P t → CpuMove t.params t.cpu c → P { t with cpu := c }
  ime : ∀ {t : State} (v : Bool), P t → P (t.setIme v)
  access : ∀ {t : State} (a : Word), P t → P (t.noteAccess a)
  write : ∀ {t : State} (a : Word) (v : Byte), P t → P (t.write8 a v)
  log : ∀ {t : State} (e : Diag), P t → P (t.logDiag e)
  clear : ∀ {t : State} (i : IrqSource), P t → P (t.clearIrq i)
  cycles : ∀ {t : State} (n : Nat), P t → P (t.setCycles n)

/-- A property that every part of a step keeps. -/
structure StepClosed (P : State → Prop) : Prop extends BranchClosed P where
  tick : ∀ {t : State}, P t → P t.tickIme
  devices : ∀ {t : State} (c : Nat), P t → P (t.deviceUpdate c)

section
variable {P : State → Prop} {s t : State}

theorem BranchClosed.reach (closed : BranchClosed P) (h : Reach s t) (hs : P s) : P t := by
  induction h with
  | refl => exact hs
  | cpu _ move ih => exact closed.cpu ih move
  | access a _ ih => exact closed.access a ih
  | write a v _ ih => exact closed.write a v ih
  | log e _ ih => exact closed.log e ih

theorem BranchClosed.meaning (closed : BranchClosed P) {i : Instr} (h : exec i s = .next t) (hs : P s) : P t := by
  by_cases reti : i = .reti
  · subst reti
    rw [exec_reti, finish_eq] at h
    cases h
    exact closed.cycles _ (closed.ime _ (closed.reach (reach_returnTo s) hs))
  · obtain ⟨n, u, meaning, reach, -⟩ := exec_meant i s reti
    rw [meaning, finish_eq] at h
    cases h
    exact closed.cycles _ (closed.reach reach hs)

/-- An interrupt's entry is a push and a jump in the state with its flag and IME cleared. -/
theorem BranchClosed.service (closed : BranchClosed P) (i : IrqSource) (hs : P s) : P (s.service i) := by
  have entered := closed.ime false (closed.clear i hs)
  have jumped := closed.reach ((Reach.refl.push16 s.cpu.pc).setPc i.handler) entered
  exact closed.reach (Reach.refl.setHalted false) (closed.cycles _ jumped)

theorem BranchClosed.stoppedStep (closed : BranchClosed P) (hs : P s) : P s.stoppedStep := by
  unfold State.stoppedStep
  split
  · exact closed.cycles _ (closed.reach (Reach.refl.setStopped false) hs)
  · exact closed.cycles _ hs

theorem BranchClosed.branch (closed : BranchClosed P) (h : s.stepBranch exec = .next t) (hs : P s) : P t := by
  rcases stepBranch_cases s exec with ⟨-, e⟩ | ⟨-, -, i, -, e⟩ | ⟨-, -, -, -, e⟩ | ⟨-, -, -, e⟩ | ⟨-, e⟩
  all_goals rw [e] at h
  · cases h
    exact closed.stoppedStep hs
  · cases h
    exact closed.service i hs
  · cases h
    exact closed.cycles _ (closed.reach ((Reach.refl.setHalted false).setPc _) hs)
  · cases h
    exact closed.cycles _ hs
  · exact closed.meaning h (closed.reach (reach_fetchInstr s) hs)

end

/-! ## Every state takes a step, and what it costs -/

theorem exec_cost (i : Instr) (s : State) : ∃ t, exec i s = .next t ∧ IsCost t.cycles := by
  by_cases reti : i = .reti
  · subst reti
    exact ⟨_, exec_reti s, show IsCost 16 by simp [IsCost]⟩
  · obtain ⟨n, u, meaning, -, cost⟩ := exec_meant i s reti
    exact ⟨_, meaning, cost⟩

theorem stepBranch_cost (s : State) : ∃ t, s.stepBranch exec = .next t ∧ IsCost t.cycles := by
  have four : IsCost 4 := by simp [IsCost]
  rcases stepBranch_cases s exec with ⟨-, e⟩ | ⟨-, -, i, -, e⟩ | ⟨-, -, -, -, e⟩ | ⟨-, -, -, e⟩ | ⟨-, e⟩
  · exact ⟨_, e, four⟩
  · refine ⟨_, e, ?_⟩
    have cost : (s.service i).cycles = if s.cpu.halted then 20 else 16 := rfl
    rw [cost]
    split <;> simp [IsCost]
  · exact ⟨_, e, four⟩
  · exact ⟨_, e, four⟩
  · rw [e]
    exact exec_cost _ _

@[simp] theorem tickIme_cycles (s : State) : s.tickIme.cycles = s.cycles := rfl
@[simp] theorem tickIme_ppu (s : State) : s.tickIme.ppu = s.ppu := rfl
@[simp] theorem tickIme_params (s : State) : s.tickIme.params = s.params := rfl
@[simp] theorem tickIme_irq (s : State) : s.tickIme.irq = s.irq := rfl

/-- A step's next state is that of its branch, ticked and with the devices updated. -/
theorem step_next_iff {s t : State} :
    step s = .next t ↔ ∃ u, s.stepBranch exec = .next u ∧ t = u.tickIme.deviceUpdate u.cycles := by
  obtain ⟨u, branch, -⟩ := stepBranch_cost s
  rw [step_of_branch branch]
  constructor
  · intro h
    cases h
    exact ⟨u, branch, rfl⟩
  · rintro ⟨v, other, rfl⟩
    cases branch.symm.trans other
    rfl

theorem StepClosed.next {P : State → Prop} (closed : StepClosed P) {s t : State} (h : step s = .next t) (hs : P s) :
    P t := by
  obtain ⟨u, branch, rfl⟩ := step_next_iff.mp h
  exact closed.devices _ (closed.tick (closed.branch branch hs))

/-- What does not speak of the CPU, the log or the cost is kept where the bus and a cleared flag keep it. -/
theorem BranchClosed.of_components {P : State → Prop}
    (frame : ∀ {t : State} (c : Cpu) (d : List Diag) (n : Nat), P t → P { t with cpu := c, diag := d, cycles := n })
    (write : ∀ {t : State} (a : Word) (v : Byte), P t → P (t.write8 a v))
    (clear : ∀ {t : State} (i : IrqSource), P t → P (t.clearIrq i)) : BranchClosed P where
  cpu ht _ := frame _ _ _ ht
  ime _ ht := frame _ _ _ ht
  access {t} a ht := by
    unfold State.noteAccess
    split
    · exact ht
    · exact frame t.cpu _ t.cycles ht
  write := write
  log e ht := frame _ _ _ ht
  clear := clear
  cycles n ht := frame _ _ _ ht

/-- The same for the whole step, where the devices keep it too. -/
theorem StepClosed.of_components {P : State → Prop}
    (frame : ∀ {t : State} (c : Cpu) (d : List Diag) (n : Nat), P t → P { t with cpu := c, diag := d, cycles := n })
    (write : ∀ {t : State} (a : Word) (v : Byte), P t → P (t.write8 a v))
    (clear : ∀ {t : State} (i : IrqSource), P t → P (t.clearIrq i))
    (devices : ∀ {t : State} (c : Nat), P t → P (t.deviceUpdate c)) : StepClosed P where
  toBranchClosed := .of_components frame write clear
  tick ht := frame _ _ _ ht
  devices := devices

/-- Each branch has a cost, which the tick and the devices leave alone. -/
theorem step_cost (s : State) : ∃ t, step s = .next t ∧ IsCost t.cycles := by
  obtain ⟨u, branch, cost⟩ := stepBranch_cost s
  exact ⟨_, step_of_branch branch, by simpa using cost⟩

/-- Settles O11: `IsCost` is the statement's bounds. -/
theorem everyStepGoesOnAtACostOfFourCycleUnits : Obligations.EveryStepGoesOnAtACostOfFourCycleUnits := step_cost

/-! ## The log and the budget -/

/-- Settles O13: s and the state with another log are one state with different events put before its log. -/
theorem theDiagnosticLogIsNeverRead : Obligations.TheDiagnosticLogIsNeverRead := by
  intro s t d h
  let bare : State := { s with diag := [] }
  obtain ⟨u, next, -⟩ := step_cost bare
  have relabel (e : List Diag) : step { s with diag := e } = .next (u.relabel e s.budget) := by
    have eq : ({ s with diag := e } : State) = bare.relabel e s.budget := by simp [bare, State.relabel]
    rw [eq, relabel_step, next]
    rfl
  cases h.symm.trans (relabel s.diag)
  exact ⟨u.diag, rfl, relabel d⟩

theorem step_withBudget {s t : State} (h : step s = .next t) (b : Rat) :
    step { s with budget := b } = .next { t with budget := b } := by
  have relabel := relabel_step s [] b
  rw [h] at relabel
  exact relabel

/-- Nothing changes the parameters. -/
theorem step_params {s t : State} (h : step s = .next t) : t.params = s.params :=
  StepClosed.next (P := fun t => t.params = s.params)
    (.of_components (fun _ _ _ ht => ht) (fun a v ht => by simpa using ht) (fun _ ht => ht)
      fun c ht => by simpa using ht) h rfl

/-! ## Runs -/

theorem runSteps_succ {s t : State} (h : step s = .next t) (n : Nat) : runSteps (n + 1) s = runSteps n t := by
  simp [runSteps, h]

theorem runCost_succ {s t : State} (h : step s = .next t) (n : Nat) : runCost (n + 1) s = t.cycles + runCost n t := by
  simp [runCost, h]

theorem runSteps_params {n : Nat} {s t : State} (h : runSteps n s = .next t) : t.params = s.params := by
  induction n generalizing s with
  | zero =>
    cases h
    rfl
  | succ n ih =>
    obtain ⟨u, first, -⟩ := step_cost s
    rw [runSteps_succ first] at h
    exact (ih h).trans (step_params first)

/-- A run in two parts. -/
theorem run_add {k : Nat} {s u : State} (h : runSteps k s = .next u) (n : Nat) :
    runSteps (k + n) s = runSteps n u ∧ runCost (k + n) s = runCost k s + runCost n u := by
  induction k generalizing s with
  | zero =>
    cases h
    simp [runCost]
  | succ k ih =>
    obtain ⟨t, first, -⟩ := step_cost s
    rw [runSteps_succ first] at h
    obtain ⟨steps, cost⟩ := ih h
    rw [Nat.add_right_comm, runSteps_succ first, runCost_succ first, runCost_succ first, steps, cost, Nat.add_assoc]
    exact ⟨rfl, rfl⟩

/-- A run is blind to the budget. -/
theorem run_withBudget (n : Nat) (s : State) (b : Rat) :
    runSteps n { s with budget := b } = mapNext (fun u => { u with budget := b }) (runSteps n s) ∧
      runCost n { s with budget := b } = runCost n s := by
  induction n generalizing s with
  | zero => exact ⟨rfl, rfl⟩
  | succ n ih =>
    obtain ⟨t, first, -⟩ := step_cost s
    rw [runSteps_succ (step_withBudget first b), runCost_succ (step_withBudget first b), runSteps_succ first,
      runCost_succ first, (ih t).1, (ih t).2]
    exact ⟨rfl, rfl⟩

/-! ## `advance` (R142) -/

/-- A budget b pays for exactly k steps from s. -/
def PaysFor (s : State) (b : Rat) (k : Nat) : Prop := b - runCost k s ≤ 0 ∧ ∀ j, j < k → (runCost j s : Rat) < b

theorem paysFor_withBudget {s : State} {b c : Rat} {k : Nat} : PaysFor { s with budget := b } c k ↔ PaysFor s c k := by
  simp only [PaysFor, (run_withBudget _ s b).2]

theorem PaysFor.unique {s : State} {b : Rat} {j k : Nat} (hj : PaysFor s b j) (hk : PaysFor s b k) : j = k := by
  obtain ⟨spentJ, neededJ⟩ := hj
  obtain ⟨spentK, neededK⟩ := hk
  by_contra different
  rcases Nat.lt_or_gt_of_ne different with lt | lt
  · have := neededK j lt
    linarith
  · have := neededJ k lt
    linarith

/-- A budget raised by what is left after the first k steps and by more pays for the later steps too. -/
theorem PaysFor.add {s u : State} {b x : Rat} {k n : Nat} (hx : 0 ≤ x) (run : runSteps k s = .next u)
    (first : PaysFor s b k) (later : PaysFor u (b - runCost k s + x) n) : PaysFor s (b + x) (k + n) := by
  obtain ⟨spent, needed⟩ := later
  have cost m : (runCost (k + m) s : Rat) = runCost k s + runCost m u := by exact_mod_cast (run_add run m).2
  refine ⟨by linarith [cost n], fun j lt => ?_⟩
  by_cases h : j < k
  · linarith [first.2 j h]
  · obtain ⟨m, rfl⟩ := Nat.exists_eq_add_of_le (Nat.le_of_not_lt h)
    linarith [needed m (by omega), cost m]

/-- The loop of R142 takes the steps that its budget pays for, on fuel that is enough. -/
theorem spendBudget_spends (fuel : Nat) (s : State) (b : Rat) (enough : b ≤ fuel) : ∃ k u, runSteps k s = .next u ∧
    ({ s with budget := b } : State).spendBudget fuel = .next { u with budget := b - runCost k s } ∧ PaysFor s b k := by
  induction fuel generalizing s b with
  | zero =>
    refine ⟨0, s, rfl, ?_, by simpa [runCost] using enough, fun _ lt => absurd lt (Nat.not_lt_zero _)⟩
    simp [State.spendBudget, runCost]
  | succ fuel ih =>
    by_cases positive : 0 < b
    · obtain ⟨t, first, -, low, -⟩ := step_cost s
      have cost : (1 : Rat) ≤ t.cycles := by exact_mod_cast (by omega : 1 ≤ t.cycles)
      obtain ⟨k, u, run, spends, spent, needed⟩ := ih t (b - t.cycles) (by push_cast at enough; linarith)
      refine ⟨k + 1, u, (runSteps_succ first k).trans run, ?_, ?_, fun j lt => ?_⟩
      · simp only [State.spendBudget, if_pos positive, step_withBudget first, runCost_succ first, Nat.cast_add, ← sub_sub]
        exact spends
      · rw [runCost_succ first]
        push_cast
        linarith
      · cases j with
        | zero => simpa [runCost] using positive
        | succ j =>
          rw [runCost_succ first]
          push_cast
          linarith [needed j (by omega)]
    · refine ⟨0, s, rfl, ?_, by simpa [runCost] using positive, fun _ lt => absurd lt (Nat.not_lt_zero _)⟩
      simp [State.spendBudget, runCost, positive]

theorem advance_spends (s : State) (x : Rat) : ∃ k u, runSteps k s = .next u ∧
    s.advance x = .next { u with budget := s.budget + x * s.params.clockRate - runCost k s } ∧
    PaysFor s (s.budget + x * s.params.clockRate) k :=
  spendBudget_spends _ s _ ((Rat.le_ceil).trans (by exact_mod_cast Int.self_le_toNat _))

/-- Settles O12: the steps of two calls pay for the two times together, and a budget pays for one number of steps only. -/
theorem advanceSpendsItsBudget : Obligations.AdvanceSpendsItsBudget := by
  refine ⟨fun s x => ?_, fun s t first second positive h => ?_⟩
  · obtain ⟨k, u, run, advanced, spent, needed⟩ := advance_spends s x
    exact ⟨k, u, run, advanced, spent, needed⟩
  · obtain ⟨k, u, run, advanced, pays⟩ := advance_spends s first
    cases h.symm.trans advanced
    have params := runSteps_params run
    generalize left : s.budget + first * s.params.clockRate - runCost k s = b at *
    obtain ⟨n, v, runLater, advancedLater, paysLater⟩ := advance_spends { u with budget := b } second
    obtain ⟨m, w, runBoth, advancedBoth, paysBoth⟩ := advance_spends s (first + second)
    obtain ⟨sameRun, sameCost⟩ := run_withBudget n u b
    have total : s.budget + (first + second) * s.params.clockRate
        = s.budget + first * s.params.clockRate + second * s.params.clockRate := by ring
    have later : PaysFor u (b + second * u.params.clockRate) n := paysFor_withBudget.mp paysLater
    rw [params, ← left] at later
    have both := PaysFor.add (mul_nonneg positive (Nat.cast_nonneg _)) run pays later
    rw [← total] at both
    obtain rfl := paysBoth.unique both
    obtain ⟨steps, cost⟩ := run_add run n
    rw [← steps, runBoth, runLater] at sameRun
    cases sameRun
    rw [advancedLater, advancedBoth, sameCost, cost, params, total, ← left]
    congr 2
    push_cast
    ring

end Sys2Proof.Machine
end

section
/-! Running, waiting and interrupts (40_step_engine.md R140..R144, 60_exceptions.md R405..R413). `stepBranch_cases` says which
branch a step takes and `tickIme_cpu` what the tick does after it; what is proved here is what each branch leaves of the CPU. -/

namespace Sys2Proof.Machine

/-! ## CPU control (47_cpu_control.md) -/

/-- Settles O39: each is one register update at 4 cycles. -/
theorem cpuControlInstructions : Obligations.CpuControlInstructions :=
  fun _ _ => ⟨⟨rfl, rfl⟩, ⟨rfl, rfl⟩, ⟨rfl, rfl⟩, ⟨rfl, rfl⟩, ⟨rfl, rfl⟩⟩

/-- Settles O37: RETI is a return with IME set after it, and setting IME touches nothing else. -/
theorem retiReturnsAndSetsIME : Obligations.RetiReturnsAndSetsIME := by
  refine ⟨rfl, fun s => ⟨_, exec_reti s, rfl, ?_⟩⟩
  obtain ⟨pc, sp, f, regs, ⟨-, enable, disable, halted, stopped⟩, devices, bytes, log⟩ := returnTo_spec s 16
  generalize returnTo s = t at *
  refine ⟨pc, sp, rfl, enable, disable, halted, stopped, f, fun r hr => ?_, devices, bytes, log⟩
  rw [← regs r hr]
  cases r <;> rfl

/-! ## The branches -/

/-- Settles O6: a running state executes what it fetches, and it fetches i. -/
theorem stepRunsTheDecodedInstruction : Obligations.StepRunsTheDecodedInstruction := by
  intro s i runs wellFormed bytes
  have fetched := fetchInstr_of_bytes wellFormed bytes
  have branch : s.stepBranch exec = exec i (s.fetched (encode i).length) := by
    rw [stepBranch_of_runs runs, State.executeInstruction, fetched]
  obtain ⟨t, next⟩ := exec_next i (s.fetched (encode i).length)
  rw [step_of_branch (branch.trans next), next]
  rfl

theorem stepBranch_stopped {s : State} (h : s.cpu.stopped = true) (run : Instr → State → Result) :
    s.stepBranch run = .next s.stoppedStep := by simp [State.stepBranch, h]

theorem stepBranch_service {s : State} {i : IrqSource} (running : s.cpu.stopped = false) (enabled : s.cpu.ime = true)
    (pending : s.nextTriggered = some i) (run : Instr → State → Result) : s.stepBranch run = .next (s.service i) := by
  simp [State.stepBranch, running, enabled, pending]

theorem stepBranch_haltWake {s : State} (running : s.cpu.stopped = false) (halted : s.cpu.halted = true)
    (disabled : s.cpu.ime = false) (pending : s.nextTriggered ≠ none) (run : Instr → State → Result) :
    s.stepBranch run = .next s.haltWake := by
  obtain ⟨i, pending⟩ := Option.ne_none_iff_exists'.mp pending
  simp [State.stepBranch, running, halted, disabled, pending]

theorem stepBranch_idle {s : State} (running : s.cpu.stopped = false) (halted : s.cpu.halted = true)
    (quiet : s.nextTriggered = none) (run : Instr → State → Result) : s.stepBranch run = .next s.haltedIdle := by
  simp [State.stepBranch, running, halted, quiet]

/-- A stopped step ends the stopped state exactly when a source is pending. -/
theorem stoppedStep_eq {s : State} (h : s.cpu.stopped = true) :
    s.stoppedStep = { s with cpu := { s.cpu with stopped := s.nextTriggered.isNone }, cycles := 4 } := by
  unfold State.stoppedStep
  cases s.nextTriggered with
  | none =>
    rw [if_neg (by simp), Option.isNone_none, ← h]
    rfl
  | some i => rfl

/-- Settles O44: each waiting branch, then the tick and the devices. -/
theorem waitingSteps : Obligations.WaitingSteps := by
  refine fun s => ⟨fun stopped => ?_, fun running halted disabled pending => ?_, fun running halted quiet => ?_⟩
  · rw [step_of_branch (stepBranch_stopped stopped exec), stoppedStep_eq stopped]
  · exact step_of_branch (stepBranch_haltWake running halted disabled pending exec)
  · exact step_of_branch (stepBranch_idle running halted quiet exec)

/-! ## Waiting for ever -/

/-- A waiting step with no source enabled sets the cost, and the tick and the devices follow. -/
theorem step_waiting {s : State} (waits : s.cpu.halted = true ∨ s.cpu.stopped = true) (none : s.irq.enable &&& 0x1F = 0) :
    step s = .next ((s.setCycles 4).tickIme.deviceUpdate 4) := by
  have quiet := nextTriggered_none none
  by_cases stopped : s.cpu.stopped = true
  · have idle : s.stoppedStep = s.setCycles 4 := by simp [State.stoppedStep, quiet]
    rw [step_of_branch (stepBranch_stopped stopped exec), idle, State.setCycles_cycles]
  · have running : s.cpu.stopped = false := by simpa using stopped
    exact step_of_branch (stepBranch_idle running (waits.resolve_right stopped) quiet exec)

/-- The CPU but for IME and the delay counters, which tick on while it waits, and IE. -/
def SameWait (s t : State) : Prop :=
  t.cpu.pc = s.cpu.pc ∧ t.cpu.sp = s.cpu.sp ∧ t.cpu.halted = s.cpu.halted ∧ t.cpu.stopped = s.cpu.stopped ∧
    t.irq.enable = s.irq.enable ∧ SameRegs s t [] ∧ t.cpu.f = s.cpu.f

theorem sameWait_ticked (s : State) : SameWait s ((s.setCycles 4).tickIme.deviceUpdate 4) := by
  refine ⟨?_, ?_, ?_, ?_, ?_, fun r _ => ?_, ?_⟩
  case refine_6 => cases r <;> simp [State.getReg, tickIme_cpu]
  all_goals simp [tickIme_cpu]

theorem SameWait.trans {s t u : State} (h : SameWait s t) (g : SameWait t u) : SameWait s u := by
  obtain ⟨h1, h2, h3, h4, h5, h6, h7⟩ := h
  obtain ⟨g1, g2, g3, g4, g5, g6, g7⟩ := g
  exact ⟨g1.trans h1, g2.trans h2, g3.trans h3, g4.trans h4, g5.trans h5, fun r hr => (g6 r hr).trans (h6 r hr), g7.trans h7⟩

/-- Settles O45: by induction on the steps, each of which leaves the CPU waiting as it was. -/
theorem waitingWithoutAnEnabledInterruptLastsForever : Obligations.WaitingWithoutAnEnabledInterruptLastsForever := by
  intro n
  induction n with
  | zero => exact fun s _ _ => ⟨s, rfl, rfl, rfl, rfl, rfl, rfl, fun _ _ => rfl, rfl⟩
  | succ n ih =>
    intro s waits none
    have same := sameWait_ticked s
    obtain ⟨-, -, halted, stopped, enable, -⟩ := id same
    obtain ⟨u, run, later⟩ := ih _ (by rwa [halted, stopped]) (by rwa [enable])
    exact ⟨u, (runSteps_succ (step_waiting waits none) n).trans run, SameWait.trans same later⟩

/-! ## Interrupt entry -/

theorem clearIrq_eq (s : State) (i : IrqSource) : s.clearIrq i =
    { s with irq := { s.irq with flag := s.irq.flag &&& ~~~((1 : BitVec 5) <<< i.index) } } := by
  cases i <;> rfl

/-- The CPU after an interrupt's entry. -/
theorem service_cpu (s : State) (i : IrqSource) : (s.service i).cpu =
    { s.cpu with ime := false, sp := s.cpu.sp - 2, pc := i.handler, halted := false } := by
  have push := State.push16_cpu ((s.clearIrq i).setIme false) s.cpu.pc
  unfold State.service State.setHalted State.setCycles State.setPc
  rw [push]
  rfl

/-- The entry pushes PC in the state whose flag is cleared. -/
theorem service_storesWord (s : State) (i : IrqSource) :
    StoresWord (s.clearIrq i) (s.service i) (s.cpu.sp - 2) s.cpu.pc := by
  let entered := (s.clearIrq i).setIme false
  obtain ⟨devices, log, -⟩ := push16_storesWord entered s.cpu.pc
  have same : SameDevices (s.clearIrq i) entered := sameDevices_of_cpu _ _
  have frame : SameDevices (entered.push16 s.cpu.pc) (s.service i) := by simp [SameDevices, State.service, entered]
  have logged : Logged (s.clearIrq i) (s.service i) [s.cpu.sp - 2, s.cpu.sp - 2 + 1] := by
    simpa [Logged, State.service, entered] using log
  have stored := (write8_sameDevices (write8_sameDevices same _ _) _ _).trans devices
  exact storesWord_of (stored.trans frame) logged

/-- Settles O43: the entry is a push in the state with the flag cleared, and a jump to the handler. -/
theorem interruptEntry : Obligations.InterruptEntry := by
  intro s i running enabled pending u
  have branch := stepBranch_service running enabled pending exec
  have cpu := service_cpu s i
  refine ⟨_, branch, step_of_branch branch, ?_, ?_, ?_, rfl, ?_, ?_, ?_, ?_, ?_, ?_, fun r _ => ?_⟩
  case refine_3 =>
    have stores := service_storesWord s i
    rwa [clearIrq_eq] at stores
  case refine_6 => rw [cpu]; exact running
  case refine_10 => cases r <;> simp [State.getReg, cpu]
  all_goals rw [cpu]
  rfl

/-! ## A return after a call -/

/-- A word stored in two cells reads back at its address. -/
theorem word_of_storesWord {s t : State} {a v : Word} {j k : Nat} (stores : StoresWord s t a v) (lo : s.cellOf a = some j)
    (hi : s.cellOf (a + 1) = some k) (apart : j ≠ k) : mkWord (t.peek (a + 1)) (t.peek a) = v := by
  obtain ⟨-, -, cells, -⟩ := stores
  rw [(cells j k a lo hi apart).1 lo, (cells j k (a + 1) lo hi apart).2 hi, mkWord_hiByte_loByte]

/-- The CPU after a return. -/
theorem returnTo_cpu (s : State) : (returnTo s).cpu =
    { s.cpu with pc := mkWord (s.peek (s.cpu.sp + 1)) (s.peek s.cpu.sp), sp := s.cpu.sp + 2 } := by
  simp [returnTo, State.pop16_fst, State.pop16_snd, State.setPc, State.setSp]

theorem callTo_cpu (w : Word) (s : State) : (callTo w s).cpu = { s.cpu with pc := w, sp := s.cpu.sp - 2 } := by
  simp [callTo, State.push16_cpu, State.setPc]

/-- A return in a state that keeps the return address on the stack comes back to it. -/
theorem returnTo_after {s t : State} {j k : Nat} (stores : StoresWord s t (s.cpu.sp - 2) s.cpu.pc)
    (sp : t.cpu.sp = s.cpu.sp - 2) (lo : s.cellOf (s.cpu.sp - 2) = some j) (hi : s.cellOf (s.cpu.sp - 1) = some k)
    (apart : j ≠ k) : (returnTo t).cpu = { t.cpu with pc := s.cpu.pc, sp := s.cpu.sp } := by
  have next : s.cpu.sp - 2 + 1 = s.cpu.sp - 1 := by bv_omega
  have back : s.cpu.sp - 2 + 2 = s.cpu.sp := by bv_omega
  rw [returnTo_cpu, sp, word_of_storesWord stores lo (next ▸ hi) apart, back]

/-- Each of these instructions, taken, is a call at some cost. -/
theorem exec_call {s : State} {i : Instr}
    (h : i ∈ [Instr.rst 0, .rst 1, .rst 2, .rst 3, .rst 4, .rst 5, .rst 6, .rst 7] ∨ (∃ w, i = .callA16 w) ∨
      ∃ cc w, s.cond cc = true ∧ i = Instr.callCond cc w) : ∃ n w, exec i s = finish n (callTo w s) := by
  rcases h with rst | ⟨w, rfl⟩ | ⟨cc, w, taken, rfl⟩
  · have mem : ∃ y, i = Instr.rst y := by
      simp only [List.mem_cons, List.not_mem_nil, or_false] at rst
      rcases rst with h | h | h | h | h | h | h | h <;> exact ⟨_, h⟩
    obtain ⟨y, rfl⟩ := mem
    exact ⟨_, _, exec_rst y s⟩
  · exact ⟨_, _, rfl⟩
  · exact ⟨_, _, exec_callCond_taken taken w⟩

/-- Settles O38: the two stack bytes hold the return address, and the return reads them back. -/
theorem returnUndoesCallAndInterruptEntry : Obligations.ReturnUndoesCallAndInterruptEntry := by
  refine ⟨fun s t i j k call lo hi apart h => ?_, fun s i j k running enabled pending lo hi apart => ?_⟩
  · obtain ⟨n, w, meaning⟩ := exec_call call
    rw [meaning, finish_eq] at h
    cases h
    obtain ⟨-, sp, stores, -⟩ := callTo_spec w s n
    refine ⟨_, rfl, (returnTo_after stores sp lo hi apart).trans ?_⟩
    exact congrArg (fun c : Cpu => { c with pc := s.cpu.pc, sp := s.cpu.sp }) (callTo_cpu w s)
  · have cpu := service_cpu s i
    refine ⟨_, _, stepBranch_service running enabled pending exec, by rw [cpu]; rfl, exec_reti _, ?_⟩
    have back := returnTo_after (s := s.clearIrq i) (service_storesWord s i) (by rw [cpu]; rfl) lo hi apart
    refine (congrArg (fun c : Cpu => { c with ime := true }) back).trans ?_
    rw [cpu, ← enabled]
    rfl

end Sys2Proof.Machine
end

section
/-! What changes IME (60_exceptions.md R405..R408): the delay counters are EI's and DI's alone, IME an interrupt's entry's,
RETI's and the tick's. -/

namespace Sys2Proof.Machine

/-! ## The two delay counters of a meaning -/

/-- The counters that EI and DI schedule (10_state.md R26). -/
def State.delays (s : State) : Option Nat × Option Nat := (s.cpu.imeEnableDelay, s.cpu.imeDisableDelay)

section
variable (s : State)

@[simp] theorem delays_setCycles (n : Nat) : (s.setCycles n).delays = s.delays := rfl

@[simp] theorem readSource_cpu (src : Source) : (s.readSource src).2.cpu = s.cpu := by
  cases src <;> simp [State.readSource]

@[simp] theorem readPlace_cpu (p : Place) : (s.readPlace p).2.cpu = s.cpu := by
  cases p <;> simp [State.readPlace]

theorem delays_writePlace (p : Place) (v : Byte) : (s.writePlace p v).delays = s.delays := by
  cases p <;> simp [State.writePlace, State.delays]

@[simp] theorem delays_loadRegReg (dst src : Reg8) : (loadRegReg dst src s).delays = s.delays := by simp [State.delays, loadRegReg]
@[simp] theorem delays_loadRegMem (dst : Reg8) : (loadRegMem dst s).delays = s.delays := by simp [State.delays, loadRegMem]
@[simp] theorem delays_loadMemReg (r : Reg8) : (loadMemReg r s).delays = s.delays := by simp [State.delays, loadMemReg]
@[simp] theorem delays_loadRegImm (dst : Reg8) (v : Byte) : (loadRegImm dst v s).delays = s.delays := by simp [State.delays, loadRegImm]
@[simp] theorem delays_loadMemImm (v : Byte) : (loadMemImm v s).delays = s.delays := by simp [State.delays, loadMemImm]
@[simp] theorem delays_loadAFrom (a : Word) : (loadAFrom a s).delays = s.delays := by simp [State.delays, loadAFrom]
@[simp] theorem delays_storeATo (a : Word) : (storeATo a s).delays = s.delays := by simp [State.delays, storeATo]
@[simp] theorem delays_loadAStep (d : HlStep) : (loadAStep d s).delays = s.delays := by simp [State.delays, loadAStep]
@[simp] theorem delays_storeAStep (d : HlStep) : (storeAStep d s).delays = s.delays := by simp [State.delays, storeAStep]
@[simp] theorem delays_loadPairImm (p : Pair) (w : Word) : (loadPairImm p w s).delays = s.delays := by simp [State.delays, loadPairImm]
@[simp] theorem delays_storeSp (a : Word) : (storeSp a s).delays = s.delays := by simp [State.delays, storeSp, State.write16]
@[simp] theorem delays_loadSpHl : (loadSpHl s).delays = s.delays := by simp [State.delays, loadSpHl]
@[simp] theorem delays_pushPair (q : StackPair) : (pushPair q s).delays = s.delays := by simp [State.delays, pushPair, State.push16_cpu]
@[simp] theorem delays_popPair (q : StackPair) : (popPair q s).delays = s.delays := by simp [State.delays, popPair, State.pop16_snd]
@[simp] theorem delays_aluFrom (op : AluOp) (src : Source) : (aluFrom op src s).delays = s.delays := by simp [State.delays, aluFrom]
@[simp] theorem delays_decimalAdjust : (decimalAdjust s).delays = s.delays := by simp [State.delays, decimalAdjust]
@[simp] theorem delays_complementA : (complementA s).delays = s.delays := by simp [State.delays, complementA]
@[simp] theorem delays_setCarry : (setCarry s).delays = s.delays := by simp [State.delays, setCarry]
@[simp] theorem delays_complementCarry : (complementCarry s).delays = s.delays := by simp [State.delays, complementCarry]
@[simp] theorem delays_incPair (p : Pair) : (incPair p s).delays = s.delays := by simp [State.delays, incPair]
@[simp] theorem delays_decPair (p : Pair) : (decPair p s).delays = s.delays := by simp [State.delays, decPair]
@[simp] theorem delays_addHlPair (p : Pair) : (addHlPair p s).delays = s.delays := by simp [State.delays, addHlPair]
@[simp] theorem delays_addSp (e : Byte) : (addSp e s).delays = s.delays := by simp [State.delays, addSp]
@[simp] theorem delays_loadHlSp (e : Byte) : (loadHlSp e s).delays = s.delays := by simp [State.delays, loadHlSp]
@[simp] theorem delays_rotateA (o : ShiftOp) : (rotateA o s).delays = s.delays := by simp [State.delays, rotateA]
@[simp] theorem delays_testBit (n : Fin 8) (p : Place) : (testBit n p s).delays = s.delays := by simp [State.delays, testBit]
@[simp] theorem delays_jumpTo (w : Word) : (jumpTo w s).delays = s.delays := by simp [State.delays, jumpTo]
@[simp] theorem delays_jumpRel (e : Byte) : (jumpRel e s).delays = s.delays := by simp [State.delays, jumpRel]
@[simp] theorem delays_enterHalt : (enterHalt s).delays = s.delays := by simp [State.delays, enterHalt]
@[simp] theorem delays_enterStop : (enterStop s).delays = s.delays := by simp [State.delays, enterStop]
@[simp] theorem delays_undefinedOpcode (op : Byte) : (undefinedOpcode op s).delays = s.delays := by simp [State.delays, undefinedOpcode]
@[simp] theorem delays_incPlace (p : Place) : (incPlace p s).delays = s.delays :=
  (delays_writePlace _ p _).trans (by simp [State.delays])
@[simp] theorem delays_decPlace (p : Place) : (decPlace p s).delays = s.delays :=
  (delays_writePlace _ p _).trans (by simp [State.delays])
@[simp] theorem delays_shiftPlace (o : ShiftOp) (p : Place) : (shiftPlace o p s).delays = s.delays :=
  (delays_writePlace _ p _).trans (by simp [State.delays])
@[simp] theorem delays_resetBit (n : Fin 8) (p : Place) : (resetBit n p s).delays = s.delays :=
  (delays_writePlace _ p _).trans (by simp [State.delays])
@[simp] theorem delays_setBit (n : Fin 8) (p : Place) : (setBit n p s).delays = s.delays :=
  (delays_writePlace _ p _).trans (by simp [State.delays])
@[simp] theorem delays_callTo (w : Word) : (callTo w s).delays = s.delays := by simp [State.delays, callTo_cpu]
@[simp] theorem delays_returnTo : (returnTo s).delays = s.delays := by simp [State.delays, returnTo_cpu]

/-- A transfer not taken leaves the state. -/
theorem delays_ite {c : Bool} {t : State} (h : t.delays = s.delays) : (if c then t else s).delays = s.delays := by
  cases c
  · rfl
  · exact h

@[simp] theorem delays_jumpIf (cc : Cond) (w : Word) : (jumpIf cc w s).delays = s.delays := delays_ite s (delays_jumpTo s w)
@[simp] theorem delays_jumpRelIf (cc : Cond) (e : Byte) : (jumpRelIf cc e s).delays = s.delays :=
  delays_ite s (delays_jumpRel s e)
@[simp] theorem delays_callIf (cc : Cond) (w : Word) : (callIf cc w s).delays = s.delays := delays_ite s (delays_callTo s w)
@[simp] theorem delays_returnIf (cc : Cond) : (returnIf cc s).delays = s.delays := delays_ite s (delays_returnTo s)

end

theorem delays_runCb {cb : Byte} {s t : State} (h : runCb cb s = .next t) : t.delays = s.delays := by
  unfold runCb at h
  dsimp only at h
  split at h <;> cases h <;> simp

/-- Only EI and DI write the counters. -/
theorem delays_exec {i : Instr} {s t : State} (ei : i ≠ .ei) (di : i ≠ .di) (h : exec i s = .next t) :
    t.delays = s.delays := by
  cases i
  case ei => exact absurd rfl ei
  case di => exact absurd rfl di
  case prefixCb cb => exact delays_runCb h
  case reti =>
    cases h
    exact delays_returnTo s
  all_goals
    cases h
    simp

/-! ## Where IME changes -/

theorem fires_iff {delay : Option Nat} : fires delay = true ↔ ∃ n, n ≤ 1 ∧ delay = some n := by
  cases delay <;> simp [fires]

/-- The branch of a step changes IME where it takes an interrupt or executes RETI, nowhere else (R405). -/
theorem stepBranch_ime {s u : State} (h : s.stepBranch exec = .next u) : u.cpu.ime = s.cpu.ime ∨
    (s.cpu.stopped = false ∧ s.cpu.ime = true ∧ s.nextTriggered ≠ none) ∨ (s.Runs ∧ s.fetchInstr.1 = .reti) := by
  rcases stepBranch_cases s exec with ⟨stopped, e⟩ | ⟨running, enabled, i, pending, e⟩ | ⟨-, -, -, -, e⟩ | ⟨-, -, -, e⟩ |
    ⟨runs, e⟩ <;> rw [e] at h
  · cases h
    rw [stoppedStep_eq stopped]
    exact .inl rfl
  · exact .inr (.inl ⟨running, enabled, by simp [pending]⟩)
  · cases h
    exact .inl rfl
  · cases h
    exact .inl rfl
  · by_cases reti : s.fetchInstr.1 = .reti
    · exact .inr (.inr ⟨runs, reti⟩)
    · obtain ⟨n, v, meaning, reach, -⟩ := exec_meant _ s.fetchInstr.2 reti
      rw [State.executeInstruction, meaning, finish_eq] at h
      cases h
      exact .inl (reach.ime.trans (reach_fetchInstr s).ime)

/-- Settles O46: the branch's changes by `stepBranch_ime`, the tick's by `tickIme_cpu`. -/
theorem onlyTheListedEventsChangeIME : Obligations.OnlyTheListedEventsChangeIME := by
  intro s u t branch next
  have cpu : t.cpu = u.tickIme.cpu := by
    cases next.symm.trans (step_of_branch branch)
    simp
  rw [cpu, tickIme_cpu]
  refine ⟨fun changed => ?_, fun h => ?_, fun h => ?_, fun n hn h => ?_, fun n hn h => ?_, fun h => ⟨?_, fun later => ?_⟩,
    fun h => ⟨?_, ?_⟩⟩
  · by_cases enable : fires u.cpu.imeEnableDelay = true
    · obtain ⟨n, due, eq⟩ := fires_iff.mp enable
      exact .inr (.inr ⟨n, due, .inl eq⟩)
    · by_cases disable : fires u.cpu.imeDisableDelay = true
      · obtain ⟨n, due, eq⟩ := fires_iff.mp disable
        exact .inr (.inr ⟨n, due, .inr eq⟩)
      · have kept : u.cpu.ime ≠ s.cpu.ime := by simpa [enable, disable] using changed
        exact ((stepBranch_ime branch).resolve_left kept).imp_right .inl
  case refine_7 =>
    have quiet : fires u.cpu.imeDisableDelay = false := by
      rw [← Bool.not_eq_true, fires_iff]
      rintro ⟨m, due, eq⟩
      exact absurd (later m eq) (Nat.not_lt.mpr due)
    rw [h, quiet]
    rfl
  all_goals simp [h, ticked, fires]
  all_goals omega

/-! ## EI and DI (R408) -/

/-- Where a running state fetches a one-byte instruction, the step is its meaning, the tick and the devices. -/
theorem step_of_byte {s t : State} {i : Instr} {op : Byte} (runs : s.Runs) (wellFormed : i.WellFormed = true)
    (bytes : encode i = [op]) (at_pc : s.peek s.cpu.pc = op) (meaning : exec i (s.fetched 1) = .next t) :
    step s = .next (t.tickIme.deviceUpdate t.cycles) := by
  have read : ∀ k, k < (encode i).length → s.peek (s.cpu.pc + BitVec.ofNat 16 k) = (encode i).getD k 0 := by
    intro k hk
    obtain rfl : k = 0 := by simpa [bytes] using hk
    simpa [bytes] using at_pc
  have next := stepRunsTheDecodedInstruction s i runs wellFormed read
  rw [bytes, List.length_singleton, meaning] at next
  exact next

theorem fetched_cpu (s : State) : (s.fetched 1).cpu = { s.cpu with pc := s.cpu.pc + 1 } := by
  simp [State.fetched, State.setPc]

@[simp] theorem fetched_params (s : State) : (s.fetched 1).params = s.params := by
  simp [State.fetched]

theorem delays_fetchInstr (s : State) : s.fetchInstr.2.delays = s.delays := by
  unfold State.fetchInstr
  dsimp only
  split <;> simp [State.delays, State.fetch8, State.fetch16]

/-- The state in which a running step's instruction has been executed: the tick fires on what that instruction left of the
counters. -/
theorem step_of_meaning {s v : State} (runs : s.Runs) (meaning : exec s.fetchInstr.1 s.fetchInstr.2 = .next v) :
    step s = .next (v.tickIme.deviceUpdate v.cycles) :=
  step_of_branch ((stepBranch_of_runs runs).trans meaning)

/-- The step after EI's, from a state whose enabling counter is at 1. -/
theorem step_after_ei {t : State} (eiDelay : t.params.eiDelay = 2) (diDelay : t.params.diDelay = 1) (runs : t.Runs)
    (disabled : t.cpu.ime = false) (enable : t.cpu.imeEnableDelay = some 1) (disable : t.cpu.imeDisableDelay = none) :
    ∃ u, step t = .next u ∧
      (t.fetchInstr.1 ≠ .ei → t.fetchInstr.1 ≠ .di → u.cpu.ime = true ∧ u.cpu.imeEnableDelay = none) ∧
      (t.fetchInstr.1 = .di → u.cpu.ime = false ∧ u.cpu.imeDisableDelay = none) ∧
      (t.fetchInstr.1 = .ei → u.cpu.ime = false ∧ u.cpu.imeEnableDelay = some 1) := by
  obtain ⟨v, meaning⟩ := exec_next t.fetchInstr.1 t.fetchInstr.2
  have fetched := reach_fetchInstr t
  have counters : t.fetchInstr.2.delays = (some 1, none) := by rw [delays_fetchInstr, State.delays, enable, disable]
  obtain ⟨fetchedEnable, fetchedDisable⟩ := Prod.mk.inj counters
  refine ⟨_, step_of_meaning runs meaning, fun ei di => ?_, fun di => ?_, fun ei => ?_⟩
  · obtain ⟨e, d⟩ := Prod.mk.inj ((delays_exec ei di meaning).trans counters)
    simp [tickIme_cpu, e, d, fires, ticked]
  · rw [di] at meaning
    cases meaning
    simp [tickIme_cpu, scheduleDi, fetched.params, diDelay, fires, ticked]
  · rw [ei] at meaning
    cases meaning
    simp [tickIme_cpu, scheduleEi, fetched.params, eiDelay, fetchedDisable, fetched.ime, disabled, fires, ticked]

/-- Settles O47: EI's counter is at 1 after its own step, so it fires at the tick after the next one, whatever that is; DI's
own counter fires with it or at the end of DI's step. -/
theorem eiTakesEffectAfterTheNextInstruction : Obligations.EiTakesEffectAfterTheNextInstruction := by
  intro s eiDelay diDelay runs
  refine ⟨fun disabled quiet at_pc => ?_, fun at_pc => ?_⟩
  · have next := step_of_byte (i := .ei) runs rfl rfl at_pc rfl
    rw [State.setCycles_cycles] at next
    obtain ⟨running, awake, -⟩ := id runs
    generalize after : ((scheduleEi (s.fetched 1)).setCycles 4).tickIme.deviceUpdate 4 = t at next
    have params : t.params = s.params := by simp [← after, scheduleEi]
    have off : t.cpu.ime = false := by simp [← after, tickIme_cpu, scheduleEi, fetched_cpu, eiDelay, disabled, quiet, fires]
    have enable : t.cpu.imeEnableDelay = some 1 := by simp [← after, tickIme_cpu, scheduleEi, eiDelay, ticked]
    have disable : t.cpu.imeDisableDelay = none := by
      simp [← after, tickIme_cpu, scheduleEi, fetched_cpu, quiet, ticked]
    have runsOn : t.Runs := by
      refine ⟨?_, ?_, .inr off⟩ <;> simp [← after, tickIme_cpu, scheduleEi, fetched_cpu, running, awake]
    obtain ⟨u, later⟩ := step_after_ei (params ▸ eiDelay) (params ▸ diDelay) runsOn off enable disable
    exact ⟨t, u, next, off, runsOn, later⟩
  · have next := step_of_byte (i := .di) runs rfl rfl at_pc rfl
    refine ⟨_, next, ?_⟩
    simp [tickIme_cpu, scheduleDi, diDelay, fires, ticked]

end Sys2Proof.Machine
end

section
/-! What no instruction writes: the devices' own state, the ROM image and the buttons (60_exceptions.md R444, R431, R471,
20_memory.md R64, R79). A bus write keeps it, so every meaning does (`BranchClosed`). -/

namespace Sys2Proof.Machine

/-! ## The frame of two targets whose write depends on the state -/

theorem writeTarget_cartRam (s : State) (off : Nat) (v : Byte) :
    ∃ m, s.writeTarget (.cartRam off) v = { s with mem := m } := by
  unfold State.writeTarget
  dsimp only
  split
  · exact ⟨s.mem, rfl⟩
  · exact ⟨_, rfl⟩

theorem writeTarget_serialControl (s : State) (v : Byte) :
    ∃ p q, s.writeTarget .serialControl v = { s with serial := p, irq := q } := by
  unfold State.writeTarget State.writeSc
  dsimp only
  split
  · exact ⟨_, _, rfl⟩
  · exact ⟨_, s.irq, rfl⟩

/-! ## The state that a program does not own -/

/-- The state that the devices and the host own, not the program. -/
def SameOwned (s t : State) : Prop :=
  t.ppu.ly = s.ppu.ly ∧ t.ppu.mode = s.ppu.mode ∧ t.ppu.clock = s.ppu.clock ∧ t.ppu.coincidence = s.ppu.coincidence ∧
    t.ppu.fb = s.ppu.fb ∧ (∀ q, t.joypad.pressed q = s.joypad.pressed q) ∧ t.timer.timaAcc = s.timer.timaAcc ∧
    t.cart.rom = s.cart.rom ∧ t.cart.romLen = s.cart.romLen ∧ t.cart.romSizeCode = s.cart.romSizeCode ∧
    t.cart.ramSize = s.cart.ramSize

theorem SameOwned.refl (s : State) : SameOwned s s := by simp [SameOwned]

theorem SameOwned.trans {s t u : State} (h : SameOwned s t) (g : SameOwned t u) : SameOwned s u := by
  obtain ⟨h1, h2, h3, h4, h5, h6, h7, h8, h9, h10, h11⟩ := h
  obtain ⟨g1, g2, g3, g4, g5, g6, g7, g8, g9, g10, g11⟩ := g
  exact ⟨g1.trans h1, g2.trans h2, g3.trans h3, g4.trans h4, g5.trans h5, fun q => (g6 q).trans (h6 q), g7.trans h7,
    g8.trans h8, g9.trans h9, g10.trans h10, g11.trans h11⟩

theorem sameOwned_writeTarget (s : State) (x : Target) (v : Byte) : SameOwned s (s.writeTarget x v) := by
  cases x
  case timer r => cases r <;> exact .refl s
  case ppu r => cases r <;> exact .refl s
  case joypad => exact ⟨rfl, rfl, rfl, rfl, rfl, fun q => by cases q <;> rfl, rfl, rfl, rfl, rfl, rfl⟩
  case serialControl =>
    obtain ⟨p, q, e⟩ := writeTarget_serialControl s v
    rw [e]
    exact .refl s
  case cartRam off =>
    obtain ⟨m, e⟩ := writeTarget_cartRam s off v
    rw [e]
    exact .refl s
  case rom n =>
    unfold State.writeTarget Cart.writeRom
    dsimp only
    split <;> exact .refl s
  all_goals exact .refl s

theorem sameOwned_write8 (s : State) (a : Word) (v : Byte) : SameOwned s (s.write8 a v) := by
  have noted : SameOwned s (s.noteAccess a) := by simp [SameOwned]
  exact noted.trans (sameOwned_writeTarget _ _ v)

/-- Every instruction, waiting step and interrupt entry keeps it. -/
theorem branchClosed_sameOwned (s : State) : BranchClosed (SameOwned s) :=
  .of_components (fun _ _ _ h => h) (fun a v h => h.trans (sameOwned_write8 _ a v)) fun _ h => h

/-- The part of it that the devices leave alone as well. -/
def SameCartridge (s t : State) : Prop :=
  t.cart.rom = s.cart.rom ∧ t.cart.romLen = s.cart.romLen ∧ t.cart.romSizeCode = s.cart.romSizeCode ∧
    t.cart.ramSize = s.cart.ramSize ∧ ∀ q, t.joypad.pressed q = s.joypad.pressed q

theorem stepClosed_sameCartridge (s : State) : StepClosed (SameCartridge s) := by
  refine .of_components (fun _ _ _ h => h) (fun {t} a v h => ?_) (fun _ h => h) fun c h => by simpa [SameCartridge] using h
  obtain ⟨rom, len, code, size, pressed⟩ := h
  obtain ⟨-, -, -, -, -, buttons, -, rom', len', code', size'⟩ := sameOwned_write8 t a v
  exact ⟨rom'.trans rom, len'.trans len, code'.trans code, size'.trans size, fun q => (buttons q).trans (pressed q)⟩

/-- Settles O54: what a bus write keeps, every meaning keeps, and every step keeps of it what the devices keep. -/
theorem noInstructionWritesDeviceOwnedState : Obligations.NoInstructionWritesDeviceOwnedState := by
  refine ⟨fun i s => ?_, fun s t h => (stepClosed_sameCartridge s).next h ⟨rfl, rfl, rfl, rfl, fun _ => rfl⟩⟩
  obtain ⟨t, meaning⟩ := exec_next i s
  exact ⟨t, meaning, (branchClosed_sameOwned s).meaning meaning (.refl s)⟩

end Sys2Proof.Machine
end

section
/-! The timer (60_exceptions.md R432, R433): the divider in closed form, and n ticks of the counter by induction on n. -/

namespace Sys2Proof.Machine

theorem timaTick_wrap {s : State} (h : s.timer.tima = 0xFF) :
    s.timaTick = { s with timer := { s.timer with tima := s.timer.tma }, irq := { s.irq with flag := s.irq.flag ||| 4 } } :=
  if_pos h

theorem timaTick_count {s : State} (h : s.timer.tima ≠ 0xFF) :
    s.timaTick = { s with timer := { s.timer with tima := s.timer.tima + 1 } } := if_neg h

/-- Ticks change TIMA of the timer only. -/
theorem timaTicks_timer (s : State) (n : Nat) :
    (s.timaTicks n).timer = { s.timer with tima := (s.timaTicks n).timer.tima } := by
  induction n generalizing s with
  | zero => rfl
  | succ n ih =>
    unfold State.timaTicks
    rw [ih]
    by_cases h : s.timer.tima = 0xFF
    · rw [timaTick_wrap h]
    · rw [timaTick_count h]

/-- n ticks: TIMA counts up, and from the first wrap on it runs from TMA to 0xFF with the Timer flag set. -/
theorem timaTicks_counts (n : Nat) (s : State) :
    (n < 256 - s.timer.tima.toNat →
      (s.timaTicks n).timer.tima = s.timer.tima + BitVec.ofNat 8 n ∧ (s.timaTicks n).irq = s.irq) ∧
    (256 - s.timer.tima.toNat ≤ n →
      (s.timaTicks n).timer.tima.toNat =
        s.timer.tma.toNat + (n - (256 - s.timer.tima.toNat)) % (256 - s.timer.tma.toNat) ∧
      (s.timaTicks n).irq.flag = s.irq.flag ||| 4) := by
  induction n generalizing s with
  | zero =>
    have := s.timer.tima.isLt
    exact ⟨fun _ => ⟨by simp [State.timaTicks], rfl⟩, fun h => by omega⟩
  | succ n ih =>
    unfold State.timaTicks
    by_cases wrap : s.timer.tima = 0xFF
    · rw [timaTick_wrap wrap, wrap]
      obtain ⟨below, above⟩ := ih { s with
        timer := { s.timer with tima := s.timer.tma }, irq := { s.irq with flag := s.irq.flag ||| 4 } }
      have := s.timer.tma.isLt
      have one : n + 1 - (256 - (0xFF : Byte).toNat) = n := by simp
      refine ⟨fun h => absurd h (by simp), fun _ => ?_⟩
      dsimp only at below above
      by_cases h : n < 256 - s.timer.tma.toNat
      · obtain ⟨tima, irq⟩ := below h
        rw [tima, irq]
        refine ⟨?_, rfl⟩
        rw [one, Nat.mod_eq_of_lt h, BitVec.toNat_add, BitVec.toNat_ofNat]
        omega
      · obtain ⟨tima, flag⟩ := above (Nat.le_of_not_lt h)
        rw [tima, flag, BitVec.or_assoc, BitVec.or_self]
        refine ⟨?_, rfl⟩
        rw [one, ← Nat.mod_eq_sub_mod (Nat.le_of_not_lt h)]
    · rw [timaTick_count wrap]
      obtain ⟨below, above⟩ := ih { s with timer := { s.timer with tima := s.timer.tima + 1 } }
      have up : (s.timer.tima + 1).toNat = s.timer.tima.toNat + 1 := by bv_omega
      have := s.timer.tima.isLt
      dsimp only at below above
      rw [up] at below above
      refine ⟨fun h => ?_, fun h => ?_⟩
      · obtain ⟨tima, irq⟩ := below (by omega)
        refine ⟨?_, irq⟩
        rw [tima, BitVec.add_assoc, BitVec.ofNat_add, BitVec.add_comm 1]
        rfl
      · obtain ⟨tima, flag⟩ := above (by omega)
        refine ⟨?_, flag⟩
        rw [tima]
        congr 2
        omega

theorem timaPeriod_eq (tac : BitVec 3) : timaPeriod tac =
    if tac.toNat % 4 = 0 then 1024 else if tac.toNat % 4 = 1 then 16 else if tac.toNat % 4 = 2 then 64 else 256 := by
  revert tac
  decide

/-- Settles O55: the divider is `updateDiv`; the counter is off, or ticks as `timaTicks_counts` says. -/
theorem timerCountsCyclesAndReloads : Obligations.TimerCountsCyclesAndReloads := by
  intro s c t p n left
  have enable := timerUpdate_enable s c
  by_cases on : timerEnabled s.timer = true
  · let r : State := { s with timer := { updateDiv c s.timer with timaAcc := (s.timer.timaAcc + c) % p } }
    have ran : t = r.timaTicks n := by
      have period : timaPeriod s.timer.tac = p := timaPeriod_eq _
      simp only [r, n, ← period]
      exact if_pos on
    have timer := timaTicks_timer r n
    obtain ⟨below, above⟩ := timaTicks_counts n r
    rw [← ran] at timer below above
    refine ⟨timerUpdate_frame s c, ?_, ⟨?_, ?_, enable⟩, fun off => ?_, fun _ => ⟨?_, below, above⟩⟩
    · rw [timer]
      exact ⟨rfl, rfl⟩
    · rw [timer]
      rfl
    · rw [timer]
      rfl
    · exact absurd (on.symm.trans off) (by simp)
    · rw [timer]
  · have idle : t = { s with timer := updateDiv c s.timer } := if_neg on
    rw [idle]
    exact ⟨rfl, ⟨rfl, rfl⟩, ⟨rfl, rfl, rfl⟩, fun _ => ⟨rfl, rfl, rfl⟩, fun h => absurd h on⟩

end Sys2Proof.Machine
end

section
/-! The PPU's mode machine (60_exceptions.md R440..R443). Each transition takes its mode's period off the clock and moves the
PPU's place in the frame by as much, so the loop of an update leaves that place where it was (`ppuRun_path`). -/

namespace Sys2Proof.Machine

/-! ## The four transitions -/

theorem ppuTransition_oamSearch {s : State} (h : s.ppu.mode = .oamSearch) :
    s.ppuTransition = { s with ppu := { s.ppu with mode := .transfer } } := by
  unfold State.ppuTransition
  rw [h]

theorem ppuTransition_transfer {s : State} (h : s.ppu.mode = .transfer) :
    s.ppuTransition = { s.renderLine with ppu := { s.renderLine.ppu with mode := .hBlank } } := by
  unfold State.ppuTransition
  rw [h]

theorem ppuTransition_hBlank {s : State} (h : s.ppu.mode = .hBlank) :
    s.ppuTransition = if s.ppu.ly + 1 = 144
      then { s with ppu := { s.ppu with ly := 144, mode := .vBlank }, irq := { s.irq with flag := s.irq.flag ||| 1 } }
      else { s with ppu := { s.ppu with ly := s.ppu.ly + 1, mode := .oamSearch } } := by
  unfold State.ppuTransition leaveHBlank
  rw [h]
  by_cases last : s.ppu.ly + 1 = 144
  · simp only [last, if_true]
    rfl
  · simp only [last, if_false]

theorem ppuTransition_vBlank {s : State} (h : s.ppu.mode = .vBlank) (inFrame : s.ppu.ly.toNat ≤ 153) :
    s.ppuTransition = if s.ppu.ly = 153 then { s with ppu := { s.ppu with ly := 0, mode := .oamSearch } }
      else { s with ppu := { s.ppu with ly := s.ppu.ly + 1 } } := by
  have past : 153 < (s.ppu.ly + 1).toNat ↔ s.ppu.ly = 153 := by
    constructor <;> intro h <;> bv_omega
  unfold State.ppuTransition leaveVBlankLine
  rw [h]
  by_cases last : s.ppu.ly = 153
  · simp only [if_pos (past.mpr last), if_pos last]
  · simp only [past, last, if_false, h]

theorem renderLine_frame (s : State) : s.renderLine = { s with ppu := { s.ppu with fb := s.renderLine.ppu.fb } } := by
  unfold State.renderLine
  dsimp only
  split <;> rfl

/-! ## What an update leaves alone -/

/-- The PPU's part of an update's frame: the registers, and the flags of index 1 and above. -/
def SamePpu (s t : State) : Prop :=
  t.ppu = { s.ppu with ly := t.ppu.ly, mode := t.ppu.mode, clock := t.ppu.clock, fb := t.ppu.fb } ∧
    ∀ k, 1 ≤ k → t.irq.flag.getLsbD k = s.irq.flag.getLsbD k

theorem SamePpu.trans {s t u : State} (h : SamePpu s t) (g : SamePpu t u) : SamePpu s u := by
  obtain ⟨ppu, flags⟩ := h
  obtain ⟨ppu', flags'⟩ := g
  refine ⟨?_, fun k hk => (flags' k hk).trans (flags k hk)⟩
  rw [ppu', ppu]

theorem mask_getLsbD (i : IrqSource) (k : Nat) : i.mask.getLsbD k = decide (k = i.index) := by
  by_cases hk : k < 5
  · interval_cases k <;> cases i <;> rfl
  · have hi : i.index < 5 := by cases i <;> decide
    rw [BitVec.getLsbD_of_ge _ _ (by omega), eq_comm, decide_eq_false_iff_not]
    omega

theorem raiseIrq_getLsbD (s : State) (i : IrqSource) (k : Nat) :
    (s.raiseIrq i).irq.flag.getLsbD k = (s.irq.flag.getLsbD k || decide (k = i.index)) := by
  unfold State.raiseIrq
  rw [BitVec.getLsbD_or, mask_getLsbD]

theorem samePpu_transition (s : State) : SamePpu s s.ppuTransition := by
  unfold State.ppuTransition
  split
  · exact ⟨rfl, fun _ _ => rfl⟩
  · dsimp only
    rw [renderLine_frame]
    exact ⟨rfl, fun _ _ => rfl⟩
  · dsimp only
    split
    · refine ⟨rfl, fun k hk => ?_⟩
      rw [raiseIrq_getLsbD]
      simp [IrqSource.index, Nat.ne_of_gt hk]
    · exact ⟨rfl, fun _ _ => rfl⟩
  · unfold leaveVBlankLine
    split <;> exact ⟨rfl, fun _ _ => rfl⟩

theorem samePpu_run (n : Nat) (s : State) : SamePpu s (s.ppuRun n) := by
  induction n generalizing s with
  | zero => exact ⟨rfl, fun _ _ => rfl⟩
  | succ n ih =>
    unfold State.ppuRun
    split
    · have paid : SamePpu s { s with ppu := { s.ppu with clock := s.ppu.clock - s.ppu.mode.period } } :=
        ⟨rfl, fun _ _ => rfl⟩
      exact (paid.trans (samePpu_transition _)).trans (ih _)
    · exact ⟨rfl, fun _ _ => rfl⟩

/-- The compare sets the coincidence bit and, where LY and LYC are equal, LCDStat's flag. -/
theorem ppuCompare_eq (s : State) : s.ppuCompare = { s with
    ppu := { s.ppu with coincidence := decide (s.ppu.ly = s.ppu.lyc) },
    irq := if s.ppu.ly = s.ppu.lyc then (s.raiseIrq .lcdStat).irq else s.irq } := by
  unfold State.ppuCompare
  by_cases h : s.ppu.ly = s.ppu.lyc
  · simp [h, State.raiseIrq]
  · simp [h]

theorem ppuCompare_getLsbD (s : State) (k : Nat) : s.ppuCompare.irq.flag.getLsbD k =
    (s.irq.flag.getLsbD k || (decide (k = 1) && decide (s.ppu.ly = s.ppu.lyc))) := by
  rw [ppuCompare_eq]
  by_cases h : s.ppu.ly = s.ppu.lyc
  · simp only [h, if_true, raiseIrq_getLsbD, IrqSource.index, decide_true, Bool.and_true]
    rfl
  · simp [h]

/-- Settles O57: the compare comes first, and the transitions leave its bit and the flags from index 1 on alone. -/
theorem lyCoincidenceRequestsLcdStat : Obligations.LyCoincidenceRequestsLcdStat := by
  intro s c t
  obtain ⟨ppu, flags⟩ : SamePpu s.ppuCompare t := SamePpu.trans (t := { s.ppuCompare with
    ppu := { s.ppuCompare.ppu with clock := s.ppuCompare.ppu.clock + c } }) ⟨rfl, fun _ _ => rfl⟩ (samePpu_run _ _)
  rw [ppuCompare_eq] at ppu
  refine ⟨?_, ?_, ?_, fun k hk => ?_, ppuUpdate_enable s c⟩
  · have fields : t.ppu = { s.ppu with
        ly := t.ppu.ly, mode := t.ppu.mode, clock := t.ppu.clock, coincidence := t.ppu.coincidence, fb := t.ppu.fb } := by
      rw [congrArg Ppu.coincidence ppu]
      exact ppu
    exact (ppuUpdate_frame s c).trans (congrArg (fun p : Ppu => { s with ppu := p, irq := t.irq }) fields)
  · rw [ppu]
  · rw [flags 1 (Nat.le_refl 1), ppuCompare_getLsbD]
    simp
  · rw [flags k (by omega), ppuCompare_getLsbD]
    have : k ≠ 1 := by omega
    simp [this]

/-! ## The path around the frame -/

/-- LY is in the frame and the mode fits it. -/
def Ppu.InFrame (p : Ppu) : Prop := p.ly.toNat ≤ 153 ∧ (p.mode = .vBlank ↔ 144 ≤ p.ly.toNat)

/-- A transition that is due stays in the frame, at the same place of it. -/
theorem ppuTransition_path {s : State} (h : s.ppu.InFrame) :
    s.ppuTransition.ppu.InFrame ∧ s.ppuTransition.ppu.clock = s.ppu.clock ∧
      s.ppuTransition.ppu.framePosition % 70224 = (s.ppu.framePosition + s.ppu.mode.period) % 70224 := by
  obtain ⟨last, blank⟩ := h
  unfold Ppu.InFrame Ppu.framePosition
  cases mode : s.ppu.mode with
  | oamSearch =>
    rw [ppuTransition_oamSearch mode]
    simp_all [PpuMode.offset, PpuMode.period]
    omega
  | transfer =>
    rw [ppuTransition_transfer mode, renderLine_frame]
    simp_all [PpuMode.offset, PpuMode.period]
    omega
  | hBlank =>
    have visible : ¬ 144 ≤ s.ppu.ly.toNat := fun h => by simp [mode] at blank; omega
    have up : (s.ppu.ly + 1).toNat = s.ppu.ly.toNat + 1 := by bv_omega
    rw [ppuTransition_hBlank mode]
    split
    · next h =>
      rw [h] at up
      simp [PpuMode.offset, PpuMode.period] at up ⊢
      omega
    · next h =>
      have : s.ppu.ly.toNat + 1 ≠ 144 := fun e => h (by bv_omega)
      simp [PpuMode.offset, PpuMode.period]
      omega
  | vBlank =>
    have bottom := blank.mp mode
    rw [ppuTransition_vBlank mode last]
    split
    · next h =>
      simp [PpuMode.offset, PpuMode.period, h]
      omega
    · next h =>
      have : s.ppu.ly.toNat ≠ 153 := fun e => h (by bv_omega)
      simp [PpuMode.offset, PpuMode.period, mode]
      omega

/-- The loop of R440 ends with less than a period accumulated, at the place of the frame it began at. -/
theorem ppuRun_path (fuel : Nat) {s : State} (h : s.ppu.InFrame) (enough : s.ppu.clock ≤ fuel) :
    (s.ppuRun fuel).PpuLegal ∧ (s.ppuRun fuel).ppu.framePosition % 70224 = s.ppu.framePosition % 70224 := by
  have period (m : PpuMode) : 0 < m.period := by cases m <;> decide
  induction fuel generalizing s with
  | zero =>
    have := period s.ppu.mode
    exact ⟨⟨h.1, h.2, by simp only [State.ppuRun]; omega⟩, rfl⟩
  | succ fuel ih =>
    unfold State.ppuRun
    split
    · next due =>
      let paid : State := { s with ppu := { s.ppu with clock := s.ppu.clock - s.ppu.mode.period } }
      obtain ⟨inFrame, clock, place⟩ := ppuTransition_path (s := paid) h
      have := period s.ppu.mode
      obtain ⟨legal, path⟩ := ih inFrame (by rw [clock]; simp only [paid]; omega)
      refine ⟨legal, path.trans (place.trans ?_)⟩
      congr 1
      simp only [paid, Ppu.framePosition]
      omega
    · next early => exact ⟨⟨h.1, h.2, Nat.lt_of_not_le early⟩, rfl⟩

/-- A legal place is one of the frame's 70,224. -/
theorem framePosition_lt {s : State} (h : s.PpuLegal) : s.ppu.framePosition < 70224 := by
  obtain ⟨last, -, clock⟩ := h
  unfold Ppu.framePosition
  cases mode : s.ppu.mode <;> simp only [mode, PpuMode.offset, PpuMode.period] at clock ⊢ <;> omega

theorem ppuUpdate_path {s : State} (h : s.PpuLegal) (c : Nat) :
    (s.ppuUpdate c).PpuLegal ∧ (s.ppuUpdate c).ppu.framePosition = (s.ppu.framePosition + c) % 70224 := by
  obtain ⟨last, blank, -⟩ := h
  let start : State := { s.ppuCompare with ppu := { s.ppuCompare.ppu with clock := s.ppuCompare.ppu.clock + c } }
  have ppu : start.ppu = { s.ppu with coincidence := decide (s.ppu.ly = s.ppu.lyc), clock := s.ppu.clock + c } := by
    simp only [start, ppuCompare_eq]
  have inFrame : start.ppu.InFrame := by
    rw [ppu]
    exact ⟨last, blank⟩
  obtain ⟨legal, path⟩ := ppuRun_path start.ppu.clock inFrame (Nat.le_refl _)
  have place : (s.ppuUpdate c).ppu.framePosition % 70224 = start.ppu.framePosition % 70224 := path
  rw [Nat.mod_eq_of_lt (framePosition_lt (s := s.ppuUpdate c) legal), ppu] at place
  refine ⟨legal, place.trans ?_⟩
  simp only [Ppu.framePosition, Nat.add_assoc]

/-- No device but the PPU moves the PPU. -/
theorem deviceUpdate_ppu (s : State) (c : Nat) : (s.deviceUpdate c).ppu = (s.ppuUpdate c).ppu := by
  simp [State.deviceUpdate]

/-- Settles O56: an update follows the path by `ppuUpdate_path`; the branch and the tick of a step leave the PPU's place. -/
theorem ppuRunsThroughTheFrame : Obligations.PpuRunsThroughTheFrame := by
  refine ⟨fun s => ⟨fun h => ?_, fun h => ?_, fun h => ?_, fun h inFrame => ?_⟩, fun s c h => ppuUpdate_path h c,
    fun s t h next => ?_⟩
  · exact ⟨by rw [h]; rfl, ppuTransition_oamSearch h⟩
  · exact ⟨by rw [h]; rfl, ppuTransition_transfer h⟩
  · exact ⟨by rw [h]; rfl, ppuTransition_hBlank h⟩
  · exact ⟨by rw [h]; rfl, ppuTransition_vBlank h inFrame⟩
  · obtain ⟨u, branch, rfl⟩ := step_next_iff.mp next
    obtain ⟨ly, mode, clock, -⟩ := (branchClosed_sameOwned s).branch branch (.refl s)
    have legal : u.tickIme.PpuLegal := by simpa only [State.PpuLegal, tickIme_ppu, ly, mode, clock] using h
    have place : u.tickIme.ppu.framePosition = s.ppu.framePosition := by
      simp only [Ppu.framePosition, tickIme_ppu, ly, mode, clock]
    obtain ⟨legal, path⟩ := ppuUpdate_path legal u.cycles
    rw [place] at path
    unfold State.PpuLegal
    rw [deviceUpdate_ppu, State.deviceUpdate_cycles, tickIme_cycles]
    exact ⟨legal, path⟩

end Sys2Proof.Machine
end

section
/-! Byte storage behind the bus, and OAM DMA (20_memory.md R61, R62, R71..R73). Below 0x10000 a cell's number is the address
that names it, or the address 0x2000 below an echo (`cellOf_below`): this is what keeps one location's writes from another's. -/

namespace Sys2Proof.Machine

variable {s : State} {a : Word}

/-! ## Which addresses name a cell -/

theorem targetCell_ioTarget (s : State) (n : Nat) : s.targetCell (ioTarget n) = none := by
  unfold ioTarget
  repeat' split
  all_goals rfl

theorem cellOf_below {k : Nat} (h : s.cellOf a = some k) (bus : k < 0x10000) :
    k = a.toNat ∨ 0xE000 ≤ a.toNat ∧ a.toNat < 0xFE00 ∧ k = a.toNat - 0x2000 := by
  unfold State.cellOf target at h
  dsimp only at h
  split_ifs at h
  · cases h
  · have e : vramCell _ = k := Option.some.inj h
    unfold vramCell at e
    omega
  · obtain ⟨i, -, e⟩ := Option.map_eq_some_iff.mp h
    unfold cramCell at e
    omega
  · have e : wramCell _ = k := Option.some.inj h
    unfold wramCell at e
    omega
  · have e : wramCell _ = k := Option.some.inj h
    unfold wramCell at e
    omega
  · have e : oamCell _ = k := Option.some.inj h
    unfold oamCell at e
    omega
  · cases h
  · rw [targetCell_ioTarget] at h
    cases h
  · have e : hramCell _ = k := Option.some.inj h
    unfold hramCell at e
    omega
  · cases h

/-- A cell of OAM is named by its own address alone: no echo reaches it. -/
theorem cellOf_oam {k : Nat} (h : s.cellOf a = some k) (low : oamCell 0 ≤ k) (high : k < oamCell 160) : k = a.toNat := by
  unfold oamCell at low high
  rcases cellOf_below h (by omega) with e | ⟨-, below, e⟩
  · exact e
  · omega

/-- The four arrays that every address of theirs reaches, with no diagnostic. -/
def PlainAddress (a : Word) : Prop :=
  (0x8000 ≤ a.toNat ∧ a.toNat ≤ 0x9FFF) ∨ (0xC000 ≤ a.toNat ∧ a.toNat ≤ 0xDFFF) ∨
    (0xFE00 ≤ a.toNat ∧ a.toNat ≤ 0xFE9F) ∨ (0xFF80 ≤ a.toNat ∧ a.toNat ≤ 0xFFFE)

theorem cellOf_plain (h : PlainAddress a) (s : State) : s.cellOf a = some a.toNat ∧ s.noteAccess a = s := by
  unfold State.cellOf State.noteAccess accessDiag
  rcases h with ⟨low, high⟩ | ⟨low, high⟩ | ⟨low, high⟩ | ⟨low, high⟩
  · rw [target_vram_of low (by omega)]
    exact ⟨congrArg some (Nat.add_sub_of_le low), rfl⟩
  · rw [target_wram_of low (by omega)]
    exact ⟨congrArg some (Nat.add_sub_of_le low), rfl⟩
  · rw [target_oam_of low (by omega)]
    exact ⟨congrArg some (Nat.add_sub_of_le low), rfl⟩
  · rw [target_hram_of low (by omega)]
    exact ⟨congrArg some (Nat.add_sub_of_le low), rfl⟩

/-- The echo of a WRAM address names its cell. -/
theorem cellOf_echo (s : State) (low : 0xC000 ≤ a.toNat) (high : a.toNat ≤ 0xDDFF) : s.cellOf (a + 0x2000) = some a.toNat := by
  have up : (a + 0x2000).toNat = a.toNat + 0x2000 := by bv_omega
  unfold State.cellOf
  rw [target_echo_of (by omega) (by omega), up]
  simp only [State.targetCell, wramCell, Option.some.injEq]
  omega

/-! ## Plain storage and unmapped addresses -/

theorem access_unmapped (s : State) (v : Byte) (h : target a = .unmapped) :
    s.read8 a = (0xFF, s.logDiag (.unmappedAccess a)) ∧ s.write8 a v = s.logDiag (.unmappedAccess a) := by
  have noted : s.noteAccess a = s.logDiag (.unmappedAccess a) := by simp only [State.noteAccess, accessDiag, h]
  constructor
  · simp only [State.read8, State.peek, noted, h, State.readTarget]
  · simp only [State.write8, noted, h, State.writeTarget]

/-- The holes of the I/O page's first sixteen registers. -/
theorem target_unmapped_of_mem
    (h : a.toNat ∈ [0xFF03, 0xFF08, 0xFF09, 0xFF0A, 0xFF0B, 0xFF0C, 0xFF0D, 0xFF0E]) : target a = .unmapped := by
  rw [target_io_of (by simp at h; omega) (by simp at h; omega)]
  simp only [List.mem_cons, List.not_mem_nil, or_false] at h
  rcases h with h | h | h | h | h | h | h | h <;> rw [h] <;> rfl

/-- Settles O49: a plain address names one cell, which only its echo shares; an unmapped one reaches nothing. -/
theorem plainStorageAndUnmappedAddresses : Obligations.PlainStorageAndUnmappedAddresses := by
  refine fun s a v => ⟨fun plain => ?_, fun unmapped => access_unmapped s v ?_⟩
  · obtain ⟨cell, quiet⟩ := cellOf_plain plain s
    have write : s.write8 a v = s.writeCell a.toNat v := by rw [write8_of_cellOf cell, quiet]
    refine ⟨peek_write8_cell cell cell v, fun low high => peek_write8_cell cell (cellOf_echo s low high) v,
      fun b other notEcho => ?_, quiet, by rw [write]; rfl⟩
    rw [write]
    refine peek_writeCell_other fun same => ?_
    rcases cellOf_below same a.isLt with e | ⟨low, high, e⟩
    · exact other (BitVec.eq_of_toNat_eq e.symm)
    · exact notEcho ⟨low, Nat.le_of_lt_succ high, by bv_omega⟩
  · rcases unmapped with hole | ⟨low, high⟩
    · exact target_unmapped_of_mem hole
    · exact target_unmapped_of low high

/-! ## Two bytes -/

/-- Settles O50: the two bytes are those of a stored word, and a read asks for them in the same order. -/
theorem sixteenBitValueReadsBackLittleEndian : Obligations.SixteenBitValueReadsBackLittleEndian := by
  intro s a v j k lo hi apart
  have log : Logged s (s.write16 a v) [a, a + 1] := by
    simp [Logged, State.write16, State.write8_diag, events_cons]
  have stores : StoresWord s (s.write16 a v) a v := storesWord_of (SameDevices.refl _) log
  have word := word_of_storesWord stores lo hi apart
  obtain ⟨-, -, cells, -⟩ := stores
  refine ⟨?_, (cells j k a lo hi apart).1 lo, (cells j k (a + 1) lo hi apart).2 hi⟩
  simpa [State.read16] using word

end Sys2Proof.Machine
end

section
/-! OAM DMA (20_memory.md R71, R72). A copy reads each byte before it writes it, and no source byte is an OAM cell that the copy
has already written: byte i of OAM's own page is cell i itself. -/

namespace Sys2Proof.Machine

/-- A read depends on byte storage through the cell that the address names. -/
theorem peek_of_cell (s : State) (m : Memory) (d : List Diag) (a : Word)
    (h : ∀ k, s.cellOf a = some k → Memory.read m k = Memory.read s.mem k) :
    ({ s with mem := m, diag := d } : State).peek a = s.peek a := by
  cases cell : s.cellOf a with
  | some k =>
    have same : ({ s with mem := m, diag := d } : State).cellOf a = some k := cell
    rw [peek_of_cellOf same, peek_of_cellOf cell, h k cell]
  | none =>
    unfold State.cellOf at cell
    unfold State.peek
    generalize target a = x at cell
    cases x <;> simp only [State.targetCell, reduceCtorEq, Option.map_eq_none_iff] at cell
    case cartRam off => simp [State.readTarget, cell]
    all_goals rfl

theorem noteAccess_eq (s : State) (a : Word) : s.noteAccess a = { s with diag := s.diag ++ (accessDiag a).toList } := by
  unfold State.noteAccess
  cases accessDiag a with
  | none => simp
  | some e => rfl

/-- Byte i of the source page. -/
def State.dmaSource (s : State) (i : Nat) : Byte := s.peek (mkWord s.dma.source (BitVec.ofNat 8 i))

/-- The bytes of storage after the first n bytes of a copy. -/
def State.copiedByte (s : State) (n k : Nat) : Byte :=
  if oamCell 0 ≤ k ∧ k < oamCell n then s.dmaSource (k - oamCell 0) else Memory.read s.mem k

/-- The cell that a source byte names is not one that the copy has written before it. -/
theorem sourceCell_fresh {s : State} {n k : Nat} (small : n < 160)
    (h : s.cellOf (mkWord s.dma.source (BitVec.ofNat 8 n)) = some k) : s.copiedByte n k = Memory.read s.mem k := by
  refine if_neg fun ⟨low, high⟩ => ?_
  have e := cellOf_oam h low (by unfold oamCell at *; omega)
  rw [mkWord_toNat, BitVec.toNat_ofNat] at e
  unfold oamCell at *
  omega

/-- n bytes of a copy. -/
theorem dmaCopy_first (s : State) (n : Nat) (h : n ≤ 160) : ∃ m d,
    (List.range n).foldl State.dmaByte s = { s with mem := m, diag := d } ∧ ∀ k, Memory.read m k = s.copiedByte n k := by
  induction n with
  | zero => exact ⟨s.mem, s.diag, rfl, fun k => (if_neg (by unfold oamCell; omega)).symm⟩
  | succ n ih =>
    obtain ⟨m, d, run, bytes⟩ := ih (by omega)
    have read : ({ s with mem := m, diag := d } : State).peek (mkWord s.dma.source (BitVec.ofNat 8 n)) = s.dmaSource n :=
      peek_of_cell s m d _ fun k cell => (bytes k).trans (sourceCell_fresh (by omega) cell)
    refine ⟨Memory.write m (oamCell n) (s.dmaSource n),
      d ++ (accessDiag (mkWord s.dma.source (BitVec.ofNat 8 n))).toList, ?_, fun k => ?_⟩
    · rw [List.range_succ, List.foldl_append, run, List.foldl_cons, List.foldl_nil, dmaByte_eq _ n (by omega), read,
        noteAccess_eq]
      rfl
    · rw [Memory.read_write, bytes]
      unfold State.copiedByte oamCell
      by_cases here : k = 0xFE00 + n
      · rw [if_pos here, if_pos (by omega), here, Nat.add_sub_add_left, Nat.sub_zero]
      · rw [if_neg here]
        exact if_congr (by omega) rfl rfl

/-- Settles O53: a whole copy is 160 bytes of `dmaCopy_first`. -/
theorem dmaCopiesThePageAfter640Cycles : Obligations.DmaCopiesThePageAfter640Cycles := by
  refine fun s c => ⟨fun idle => ?_, fun pending early => ?_, fun pending due => ?_⟩
  · simp [State.dmaUpdate, idle]
  · simp [State.dmaUpdate, pending, dmaCycles, Nat.not_le_of_lt early]
  · obtain ⟨m, d, copy, bytes⟩ := dmaCopy_first s 160 (Nat.le_refl _)
    have update : s.dmaUpdate c = { s with dma := { s.dma with pending := false, counter := 0 }, mem := m, diag := d } := by
      have copied : s.dmaCopy = { s with mem := m, diag := d } := copy
      simp [State.dmaUpdate, pending, dmaCycles, due, copied]
    refine ⟨_, update, rfl, fun i hi => ?_, fun k outside => ?_, rfl⟩
    · refine (bytes (oamCell i)).trans ?_
      unfold State.copiedByte oamCell
      rw [if_pos (by omega)]
      simp [State.dmaSource]
    · exact (bytes k).trans (if_neg (by omega))

end Sys2Proof.Machine
end

section
/-! The I/O registers: the PPU's, the timer's, the interrupt controller's, the joypad's and the serial port's (20_memory.md R61,
R64, 60_exceptions.md R403, R430, R431, R470..R472, R480..R482). An I/O address computes to its register (`target`), and the
register's read and write functions are the rest. -/

namespace Sys2Proof.Machine

/-- STAT by its fields (R445). -/
theorem readStat_eq (p : Ppu) : readStat p = BitVec.ofNat 8 (0x80 + 8 * p.statBits.toNat + (if p.coincidence then 4 else 0)
    + (if p.mode = .hBlank then 0 else if p.mode = .vBlank then 1 else if p.mode = .oamSearch then 2 else 3)) := by
  unfold readStat bitVal
  cases p.mode <;> cases p.coincidence <;> rfl

/-- Bits 6 to 3 of a byte, as STAT stores them (R64). -/
theorem statBits_eq (v : Byte) : v.extractLsb' 3 4 = BitVec.ofNat 4 (v.toNat / 8) := by
  apply BitVec.eq_of_toNat_eq
  simp [Nat.shiftRight_eq_div_pow]

/-- Settles O51: each address is its register's, and no diagnostic belongs to it. -/
theorem ioRegistersReadAndWrite : Obligations.IoRegistersReadAndWrite := by
  intro s v
  refine ⟨?_, ?_, ?_, ?_, ?_, ?_, ?_, ⟨readStat_eq s.ppu, ?_⟩, ?_, ?_, ?_, ?_, ?_, ?_, ?_, ?_, ?_, ?_⟩
  case refine_8 => exact congrArg (fun bits => { s with ppu := { s.ppu with statBits := bits } }) (statBits_eq v)
  all_goals exact ⟨rfl, rfl⟩

/-! ## The serial port -/

/-- Settles O60: a write of SC is a transfer where it sets bits 7 and 0. -/
theorem serialTransferCompletesInTheWrite : Obligations.SerialTransferCompletesInTheWrite := by
  refine fun s v => ⟨⟨rfl, rfl⟩, rfl, fun starts => ?_, fun rests => ?_, ?_⟩
  · refine (if_pos starts).trans ?_
    rw [starts]
    rfl
  · exact if_neg rests
  · unfold State.drainSerial
    cases out : s.serial.out with
    | nil =>
      have same : s = { s with serial := { s.serial with out := [] } } := by rw [← out]
      exact congrArg (Prod.mk none) same
    | cons b rest => rfl

/-! ## The joypad -/

/-- The bits of P1's read value. -/
theorem p1_bits (x5 x4 x3 x2 x1 x0 : Bool) : ∀ i : Fin 8, (BitVec.ofNat 8 (0xC0 + 0x20 * bitVal x5 + 0x10 * bitVal x4
    + 8 * bitVal x3 + 4 * bitVal x2 + 2 * bitVal x1 + bitVal x0)).getLsbD i = [x0, x1, x2, x3, x4, x5, true, true][i] := by
  revert x5 x4 x3 x2 x1 x0
  decide

theorem line_low (j : Joypad) (action direction : Button) : j.line action direction = false ↔
    (j.pressed action = true ∧ j.selectAction = false) ∨ (j.pressed direction = true ∧ j.selectDirection = false) := by
  rw [Joypad.line, Bool.not_eq_false', Bool.or_eq_true, Bool.and_eq_true, Bool.and_eq_true, Bool.not_eq_true',
    Bool.not_eq_true']

theorem pressed_setPressed (j : Joypad) (button other : Button) (v : Bool) :
    (j.setPressed button v).pressed other = if other = button then v else j.pressed other := by
  cases button <;> cases other <;> rfl

theorem setButton_joypad (s : State) (button : Button) (v : Bool) :
    (s.setButton button v).joypad = s.joypad.setPressed button v := by
  unfold State.setButton
  dsimp only
  split <;> rfl

theorem setButton_irq (s : State) (button : Button) (v : Bool) : (s.setButton button v).irq =
    if v && !s.joypad.pressed button && s.joypad.groupSelected button then (s.raiseIrq .joypad).irq else s.irq := by
  unfold State.setButton
  dsimp only
  split <;> rfl

/-- A button's group is the one whose selection bit is low. -/
theorem groupSelected_iff (j : Joypad) (button : Button) : j.groupSelected button = true ↔
    (if button ∈ [Button.a, .b, .select, .start] then j.selectAction else j.selectDirection) = false := by
  cases button <;> simp [Joypad.groupSelected, Button.isAction]

/-- Settles O59: P1 is read bit by bit, and a button call is `setPressed` with the request of a new press. -/
theorem joypadLinesAndPresses : Obligations.JoypadLinesAndPresses := by
  refine ⟨fun s v => ?_, fun s button other v => ?_⟩
  · have bits := p1_bits s.joypad.selectAction s.joypad.selectDirection (s.joypad.line .start .down)
      (s.joypad.line .select .up) (s.joypad.line .b .left) (s.joypad.line .a .right)
    have line {i : Nat} {action direction : Button} (h : (s.peek 0xFF00).getLsbD i = s.joypad.line action direction) :=
      (iff_of_eq (congrArg (· = false) h)).trans (line_low s.joypad action direction)
    refine ⟨rfl, bits 7, bits 6, bits 5, bits 4, fun r row => ?_⟩
    simp only [List.mem_cons, List.not_mem_nil, or_false] at row
    rcases row with rfl | rfl | rfl | rfl
    · exact line (bits 0)
    · exact line (bits 1)
    · exact line (bits 2)
    · exact line (bits 3)
  · rw [setButton_joypad, setButton_irq]
    refine ⟨pressed_setPressed _ _ _ _, by cases button <;> rfl, by cases button <;> rfl, ?_⟩
    refine if_congr ?_ rfl rfl
    rw [Bool.and_eq_true, Bool.and_eq_true, groupSelected_iff, Bool.not_eq_true', and_assoc]

end Sys2Proof.Machine
end

section
/-! The cartridge's windows (20_memory.md R79..R83): what a read of each window reaches, and what a write to each of MBC1's
register ranges stores. -/

namespace Sys2Proof.Machine

/-! ## MBC1's registers by the number written (R82) -/

theorem mbc1_ramEnable (v : Byte) : (v &&& 0x1F == 0x0A) = decide (v.toNat % 32 = 0x0A) := by
  revert v
  decide

theorem mbc1_romBankLow (v : Byte) : (if v.truncate 5 = (0 : BitVec 5) then 1 else v.truncate 5) =
    if v.toNat % 32 = 0 then 1 else BitVec.ofNat 5 v.toNat := by
  revert v
  decide

theorem mbc1_mode (v : Byte) : (if v.getLsbD 0 then BankingMode.advanced else .simple) =
    if v.toNat % 2 = 1 then .advanced else .simple := by
  revert v
  decide

section
variable {s : State} {a : Word} {v : Byte}

/-- The ROM window's read. -/
theorem peek_rom (h : a.toNat < 0x8000) : s.peek a = s.cart.readRom a.toNat := by
  unfold State.peek
  rw [target_rom_of h]
  rfl

/-- A write to the ROM window reaches the mapper and nothing else. -/
theorem write8_rom_window (h : a.toNat < 0x8000) : s.write8 a v = { s with cart := s.cart.writeRom a.toNat v } := by
  have quiet : s.noteAccess a = s := by simp only [State.noteAccess, accessDiag, target_rom_of h]
  rw [State.write8, quiet, target_rom_of h]
  rfl

/-- The RAM window where it names a cell. -/
theorem access_ram {i : Nat} (low : 0xA000 ≤ a.toNat) (high : a.toNat < 0xC000)
    (index : s.cart.ramIndex (a.toNat - 0xA000) = some i) : s.cellOf a = some (cramCell i) ∧
      s.peek a = Memory.read s.mem (cramCell i) ∧ s.write8 a v = { s with mem := Memory.write s.mem (cramCell i) v } := by
  have window := target_cartRam_of low high
  have cell : s.cellOf a = some (cramCell i) := by simp only [State.cellOf, window, State.targetCell, index, Option.map_some]
  have quiet : s.noteAccess a = s := by simp only [State.noteAccess, accessDiag, window]
  refine ⟨cell, peek_of_cellOf cell, ?_⟩
  rw [write8_of_cellOf cell, quiet]
  rfl

/-- The RAM window where it names none: it reads 0xFF and drops writes. -/
theorem access_no_ram (low : 0xA000 ≤ a.toNat) (high : a.toNat < 0xC000)
    (index : s.cart.ramIndex (a.toNat - 0xA000) = none) : s.peek a = 0xFF ∧ s.write8 a v = s := by
  have window := target_cartRam_of low high
  have quiet : s.noteAccess a = s := by simp only [State.noteAccess, accessDiag, window]
  constructor
  · simp only [State.peek, window, State.readTarget, index]
  · rw [State.write8, quiet, window]
    simp only [State.writeTarget, index]

end

theorem romBank_eq (c : Cart) (bank off : Nat) :
    c.bankOffset bank off = bank % (0x8000 * 2 ^ c.romSizeCode.toNat / 0x4000) * 0x4000 + off := by
  rw [Cart.bankOffset, Cart.nbanks, Nat.shiftLeft_eq]

theorem lowBank_eq (m : Mbc1) : m.lowBank = if m.mode = .advanced then m.bankHigh.toNat * 0x20 else 0 := by
  unfold Mbc1.lowBank
  cases m.mode <;> rfl

theorem ramOffset_eq (m : Mbc1) (off : Nat) :
    m.ramOffset off = off + if m.mode = .advanced then m.bankHigh.toNat * 0x2000 else 0 := by
  unfold Mbc1.ramOffset
  cases m.mode <;> rfl

section
variable {s : State} {a : Word} (v : Byte)

theorem romOnly_windows (romOnly : s.cart.mapper = .romOnly) :
    (a.toNat < 0x8000 → s.peek a = s.cart.romAt a.toNat ∧ s.write8 a v = s) ∧
    (0xA000 ≤ a.toNat → a.toNat < 0xC000 → s.peek a = 0xFF ∧ s.write8 a v = s) := by
  refine ⟨fun h => ?_, fun low high => access_no_ram low high (by simp only [Cart.ramIndex, romOnly])⟩
  rw [peek_rom h, write8_rom_window h]
  simp only [Cart.readRom, Cart.romOffset, Cart.writeRom, romOnly, and_self]

variable {m : Mbc1} (mbc1 : s.cart.mapper = .mbc1 m)
include mbc1

theorem write8_mbc1 (h : a.toNat < 0x8000) : s.write8 a v = { s with cart := { s.cart with mapper := .mbc1 (m.write a.toNat v) } } := by
  rw [write8_rom_window h]
  simp only [Cart.writeRom, mbc1]

theorem peek_mbc1_low (h : a.toNat < 0x4000) : s.peek a = s.cart.romAt (s.cart.bankOffset m.lowBank a.toNat) := by
  rw [peek_rom (by omega)]
  simp only [Cart.readRom, Cart.romOffset, mbc1, h, if_true]

theorem peek_mbc1_high (low : 0x4000 ≤ a.toNat) (high : a.toNat < 0x8000) :
    s.peek a = s.cart.romAt (s.cart.bankOffset m.highBank (a.toNat - 0x4000)) := by
  rw [peek_rom high]
  simp only [Cart.readRom, Cart.romOffset, mbc1, Nat.not_lt.mpr low, if_false]

end

/-- Settles O52: each window and register range by its own lemma, the banks by the size formulas. -/
theorem cartridgeBanksItsWindows : Obligations.CartridgeBanksItsWindows := by
  refine fun s a v => ⟨romOnly_windows v, fun m mbc1 => ⟨fun h => ?_, fun low h => ?_, fun low h => ?_, fun low h => ?_,
    fun h => ?_, fun low high => ?_, fun low high => ⟨fun enabled sized => ?_, fun closed => access_no_ram low high ?_⟩⟩⟩
  · rw [write8_mbc1 v mbc1 (by omega), Mbc1.write, if_pos h, mbc1_ramEnable]
  · rw [write8_mbc1 v mbc1 (by omega), Mbc1.write, if_neg low.not_gt, if_pos h, mbc1_romBankLow]
  · rw [write8_mbc1 v mbc1 (by omega), Mbc1.write, if_neg (by omega), if_neg low.not_gt, if_pos h]
    rfl
  · rw [write8_mbc1 v mbc1 h, Mbc1.write, if_neg (by omega), if_neg (by omega), if_neg low.not_gt, mbc1_mode]
  · rw [peek_mbc1_low mbc1 h, romBank_eq, lowBank_eq]
    rfl
  · rw [peek_mbc1_high mbc1 low high, romBank_eq]
    rfl
  · have index : s.cart.ramIndex (a.toNat - 0xA000) = some (m.ramOffset (a.toNat - 0xA000) % s.cart.ramSize) := by
      simp only [Cart.ramIndex, mbc1, enabled, sized, and_self, if_true]
    rw [ramOffset_eq] at index
    exact access_ram low high index
  · simp only [Cart.ramIndex, mbc1]
    refine if_neg fun ⟨enabled, sized⟩ => ?_
    rcases closed with disabled | empty
    · simp [disabled] at enabled
    · omega

end Sys2Proof.Machine
end

section
/-! Construction and the state after reset (10_state.md R50, 20_memory.md R77, R78, 70_reset_and_hazards.md R500). -/

namespace Sys2Proof.Machine

/-! ## The header -/

theorem mapperOf_supported (kind : Byte) :
    mapperOf kind = if kind.toNat ≤ 3 then some (if kind = 0 then .romOnly else .mbc1 Mbc1.reset) else none := by
  revert kind
  decide

/-- The RAM sizes in the order of their codes (R78). -/
theorem ramSizeOf_eq (code : Byte) : ramSizeOf code = [0, 0x800, 0x2000, 0x8000, 0x20000, 0x10000][code.toNat]? := by
  revert code
  decide

section
variable {image : List Byte} {kind code : Byte} (long : 0x150 ≤ image.length) (kindAt : image[0x147]? = some kind)
  (codeAt : image[0x149]? = some code)
include long kindAt

theorem ofImage_unsupported (mapper : mapperOf kind = none) : Cart.ofImage image = .error (.unsupportedMapper kind) := by
  simp only [Cart.ofImage, Nat.not_lt.mpr long, if_false, List.getD_eq_getElem?_getD, kindAt, Option.getD_some, mapper]

include codeAt

theorem ofImage_unknown {m : Mapper} (mapper : mapperOf kind = some m) (size : ramSizeOf code = none) :
    Cart.ofImage image = .error (.unknownRamSize code) := by
  simp only [Cart.ofImage, Nat.not_lt.mpr long, if_false, List.getD_eq_getElem?_getD, kindAt, codeAt, Option.getD_some, mapper,
    size]

theorem ofImage_ok {m : Mapper} {n : Nat} (mapper : mapperOf kind = some m) (size : ramSizeOf code = some n) :
    Cart.ofImage image = .ok ⟨Memory.ofBytes 0 image, image.length, image.getD 0x148 0, n, m⟩ := by
  simp only [Cart.ofImage, Nat.not_lt.mpr long, if_false, List.getD_eq_getElem?_getD, kindAt, codeAt, Option.getD_some, mapper,
    size]

end

theorem construct_error {params : Config.Params} {ram : Config.InitRam} {image : List Byte} {e : ConstructError}
    (h : Cart.ofImage image = .error e) : State.construct params ram image = .error e := by
  simp only [State.construct, h]

theorem construct_ok {params : Config.Params} {ram : Config.InitRam} {image : List Byte} {c : Cart}
    (h : Cart.ofImage image = .ok c) : State.construct params ram image =
      .ok { State.reset with params := params, cart := c, mem := initialMemory ram c.ramSize } := by
  simp only [State.construct, h]

/-- The image's bytes, 0xFF beyond them. -/
theorem romAt_image {c : Cart} {image : List Byte} (rom : c.rom = Memory.ofBytes 0 image) (len : c.romLen = image.length)
    (i : Nat) : c.romAt i = image.getD i 0xFF := by
  unfold Cart.romAt
  rw [rom, len, Memory.read_ofBytes]
  by_cases h : i < image.length <;> simp [h]

/-- Settles O10: the three checks in their order, then the cartridge of the image. -/
theorem constructionReadsTheHeader : Obligations.ConstructionReadsTheHeader := by
  refine fun params ram image => ⟨fun short => construct_error (if_pos short), fun long kind code kindAt codeAt =>
    ⟨fun unsupported => construct_error ?_, fun supported unknown => construct_error ?_, fun supported known => ?_⟩⟩
  · exact ofImage_unsupported long kindAt (by rw [mapperOf_supported, if_neg (Nat.not_le.mpr unsupported)])
  · refine ofImage_unknown long kindAt codeAt (by rw [mapperOf_supported, if_pos supported]) ?_
    rw [ramSizeOf_eq, List.getElem?_eq_none (Nat.succ_le_of_lt unknown)]
  · have sized := List.getElem?_eq_getElem (l := [0, 0x800, 0x2000, 0x8000, 0x20000, 0x10000]) (Nat.lt_succ_of_le known)
    have cart := ofImage_ok long kindAt codeAt (by rw [mapperOf_supported, if_pos supported])
      ((ramSizeOf_eq code).trans sized)
    refine ⟨_, construct_ok cart, rfl, rfl, romAt_image rfl rfl, ?_, sized⟩
    have inside : 0x148 < image.length := by omega
    simp [List.getD_eq_getElem?_getD, List.getElem?_eq_getElem inside]

/-! ## The reset table -/

/-- Every component but the parameters, the cartridge and byte storage is as after reset, and so is the mapper. -/
structure IsFresh (s : State) : Prop where
  cpu : s.cpu = State.reset.cpu
  irq : s.irq = State.reset.irq
  timer : s.timer = State.reset.timer
  ppu : s.ppu = State.reset.ppu
  dma : s.dma = State.reset.dma
  joypad : s.joypad = State.reset.joypad
  serial : s.serial = State.reset.serial
  diag : s.diag = []
  mapper : s.cart.mapper = .romOnly ∨ s.cart.mapper = .mbc1 Mbc1.reset

theorem IsFresh.mbc1 {s : State} (fresh : IsFresh s) {m : Mbc1} (h : s.cart.mapper = .mbc1 m) : m = Mbc1.reset := by
  rcases fresh.mapper with romOnly | reset
  · cases romOnly.symm.trans h
  · cases reset.symm.trans h
    rfl

theorem mapperOf_fresh {kind : Byte} {m : Mapper} (h : mapperOf kind = some m) : m = .romOnly ∨ m = .mbc1 Mbc1.reset := by
  rw [mapperOf_supported] at h
  split_ifs at h <;> cases h <;> simp

/-- Everything that construction leaves, where it gives a console. -/
theorem construct_inv {params : Config.Params} {ram : Config.InitRam} {image : List Byte} {s : State}
    (h : State.construct params ram image = .ok s) : ∃ c, c.rom = Memory.ofBytes 0 image ∧
      (c.mapper = .romOnly ∨ c.mapper = .mbc1 Mbc1.reset) ∧
      s = { State.reset with params := params, cart := c, mem := initialMemory ram c.ramSize } := by
  unfold State.construct at h
  split at h
  · cases h
  · next c cart =>
    cases h
    refine ⟨c, ?_, ?_, rfl⟩ <;> unfold Cart.ofImage at cart <;> split_ifs at cart <;> split at cart <;> cases cart
    · rfl
    · next mapper _ => exact mapperOf_fresh mapper

theorem isFresh_reset : IsFresh State.reset := ⟨rfl, rfl, rfl, rfl, rfl, rfl, rfl, rfl, .inl rfl⟩

theorem isFresh_construct {params : Config.Params} {ram : Config.InitRam} {image : List Byte} {s : State}
    (h : State.construct params ram image = .ok s) : IsFresh s := by
  obtain ⟨c, -, mapper, rfl⟩ := construct_inv h
  exact ⟨rfl, rfl, rfl, rfl, rfl, rfl, rfl, rfl, mapper⟩

/-- Settles O9: the table's values are those of `State.reset`, which construction leaves, and INIT_RAM fills byte storage. -/
theorem resetGivesTheValuesOfTheResetTable : Obligations.ResetGivesTheValuesOfTheResetTable := by
  refine ⟨fun s given => ?_, fun params ram image s h => ?_, rfl, fun k => rfl⟩
  · have fresh : IsFresh s := by
      rcases given with rfl | ⟨params, ram, image, h⟩
      · exact isFresh_reset
      · exact isFresh_construct h
    rw [fresh.cpu, fresh.irq, fresh.timer, fresh.ppu, fresh.dma, fresh.joypad, fresh.serial]
    refine ⟨by decide, by decide, by decide, by decide, ?_, by decide, fun m h => ?_, ⟨fun q => ?_, by decide⟩, by decide,
      fresh.diag⟩
    · refine ⟨rfl, rfl, rfl, rfl, rfl, rfl, rfl, rfl, rfl, rfl, rfl, rfl, rfl, rfl, fun y x => ?_⟩
      simp [State.reset]
    · rw [fresh.mbc1 h]
      decide
    · cases q <;> rfl
  · obtain ⟨c, -, -, rfl⟩ := construct_inv h
    exact ⟨rfl, fun i hi => ⟨initialMemory_vram ram hi, initialMemory_wram ram hi⟩, fun i hi => initialMemory_oam ram hi,
      fun i hi => initialMemory_hram ram hi, fun i hi => initialMemory_cram ram hi⟩

/-! ## The invariant of a fresh console -/

/-- With canonical storage and positive delays a fresh console meets the invariant. -/
theorem inv_of_isFresh {s : State} (fresh : IsFresh s) (params : Params.Legal s.params) (storage : s.StorageCanonical) :
    s.Inv where
  params := params
  storage := storage
  cpu := by
    rw [State.CpuLegal, fresh.cpu]
    exact ⟨by decide, nofun, nofun⟩
  ppu := by
    rw [State.PpuLegal, fresh.ppu]
    exact ⟨by decide, by decide, by decide⟩
  timer := by
    rw [State.TimerLegal, fresh.timer]
    decide
  dma := by
    rw [State.DmaLegal, fresh.dma]
    decide
  serial := by
    rw [State.SerialLegal, fresh.serial]
    decide
  cart m h := by
    rw [fresh.mbc1 h]
    decide

/-- Settles O8: storage is canonical by `initialMemory_wf` and `Memory.ofBytes_wf`. -/
theorem everyConstructedConsoleMeetsTheInvariant : Obligations.EveryConstructedConsoleMeetsTheInvariant := by
  refine ⟨inv_of_isFresh isFresh_reset ⟨by decide, by decide⟩ ⟨reset_mem_wf, by decide⟩, fun params ram image s legal h => ?_⟩
  have fresh := isFresh_construct h
  obtain ⟨c, rom, -, rfl⟩ := construct_inv h
  refine inv_of_isFresh fresh legal ⟨initialMemory_wf ram c.ramSize, ?_⟩
  rw [rom]
  exact Memory.ofBytes_wf 0 image

end Sys2Proof.Machine
end

section
/-! Every step keeps the machine's invariant. Each part of it is a property that the bus, the meanings, the tick and the
devices keep (`StepClosed`); what is proved here is, part by part, the one operation that touches it. -/

namespace Sys2Proof.Machine

/-! ## What a bus write does to the timer, DMA, the serial port and the mapper -/

theorem timerLegal_writeTarget {s : State} (h : s.TimerLegal) (x : Target) (v : Byte) : (s.writeTarget x v).TimerLegal := by
  cases x
  case timer r =>
    cases r
    case div => exact ⟨Nat.zero_lt_succ 255, h.2⟩
    all_goals exact h
  case cartRam off =>
    obtain ⟨m, e⟩ := writeTarget_cartRam s off v
    rwa [e]
  case serialControl =>
    obtain ⟨p, q, e⟩ := writeTarget_serialControl s v
    rwa [e]
  all_goals exact h

/-- Any write of 0xFF46 starts a copy with its counter at 0 (R70). -/
theorem dmaLegal_writeTarget {s : State} (h : s.DmaLegal) (x : Target) (v : Byte) : (s.writeTarget x v).DmaLegal := by
  cases x
  case dma => exact ⟨Nat.zero_lt_succ 639, nofun⟩
  case cartRam off =>
    obtain ⟨m, e⟩ := writeTarget_cartRam s off v
    rwa [e]
  case serialControl =>
    obtain ⟨p, q, e⟩ := writeTarget_serialControl s v
    rwa [e]
  all_goals exact h

/-- The two bits of SC, and not both at rest. -/
theorem sc_legal (v : Byte) : (v &&& 0x81 = 0x81 → (v &&& 0x81) &&& 0x7F = 0x01) ∧ v &&& 0x81 &&& 0x7E = 0 := by
  revert v
  decide

theorem serialLegal_writeTarget {s : State} (h : s.SerialLegal) (x : Target) (v : Byte) :
    (s.writeTarget x v).SerialLegal := by
  cases x
  case serialControl =>
    obtain ⟨starts, bits⟩ := sc_legal v
    unfold State.writeTarget State.writeSc
    dsimp only
    split
    · next h =>
      rw [starts h]
      exact show (0x01 : Byte) &&& 0x7E = 0 ∧ (0x01 : Byte) ≠ 0x81 by decide
    · next h => exact ⟨bits, h⟩
  case cartRam off =>
    obtain ⟨m, e⟩ := writeTarget_cartRam s off v
    rwa [e]
  all_goals exact h

/-- A write of 0 to the low bank field stores 1 (R82). -/
theorem mbc1_write_romBankLow {m : Mbc1} (h : m.romBankLow ≠ 0) (a : Nat) (v : Byte) : (m.write a v).romBankLow ≠ 0 := by
  unfold Mbc1.write
  split_ifs with _ _ zero
  · exact h
  · exact show (1 : BitVec 5) ≠ 0 by decide
  · exact zero
  · exact h
  · exact h
  · exact h

theorem cartLegal_write8 {s : State} (h : s.CartLegal) (a : Word) (v : Byte) : (s.write8 a v).CartLegal := by
  intro m mbc1
  rcases write8_cart s a v with same | ⟨-, written⟩
  · rw [same] at mbc1
    exact h m mbc1
  · rw [written] at mbc1
    unfold Cart.writeRom at mbc1
    split at mbc1
    · next romOnly => cases romOnly.symm.trans mbc1
    · next old mapper =>
      cases mbc1
      exact mbc1_write_romBankLow (h old mapper) _ _

/-! ## The parts that a step keeps -/

theorem stepClosed_params : StepClosed fun s => Params.Legal s.params :=
  .of_components (fun _ _ _ h => h) (fun _ _ h => by simpa using h) (fun _ h => h) fun _ h => by simpa using h

theorem dmaUpdate_mem_wf {s : State} (h : Memory.wf s.mem) (c : Nat) : Memory.wf (s.dmaUpdate c).mem := by
  unfold State.dmaUpdate
  dsimp only
  split_ifs
  · exact dmaCopy_mem_wf s h
  · exact h
  · exact h

theorem stepClosed_storage : StepClosed State.StorageCanonical := by
  refine .of_components (fun _ _ _ h => h) (fun {t} a v h => ⟨write8_mem_wf h.1 a v, ?_⟩) (fun _ h => h)
    fun {t} c h => ⟨?_, ?_⟩
  · rw [(write8_rom t a v).1]
    exact h.2
  · exact dmaUpdate_mem_wf (by simpa using h.1) c
  · rw [State.deviceUpdate_cart]
    exact h.2

theorem ticked_pos {delay : Option Nat} {n : Nat} (h : ticked delay = some n) : 0 < n := by
  cases delay with
  | none => cases h
  | some m =>
    simp only [ticked, Option.bind_some] at h
    split_ifs at h
    cases h
    omega

/-- A delay that is scheduled is positive where the parameters are, so this part of the invariant needs that one. -/
theorem stepClosed_cpu : StepClosed fun s => Params.Legal s.params ∧ s.CpuLegal where
  cpu h move := by
    obtain ⟨⟨ei, di⟩, flags, enable, disable⟩ := h
    exact ⟨⟨ei, di⟩, move.flags flags, move.enable ei enable, move.disable di disable⟩
  ime _ h := h
  access a h := by simpa [State.CpuLegal] using h
  write a v h := by simpa [State.CpuLegal] using h
  log _ h := h
  clear _ h := h
  cycles _ h := h
  tick {t} h := by
    refine ⟨h.1, ?_⟩
    rw [State.CpuLegal, tickIme_cpu]
    exact ⟨h.2.1, fun n => ticked_pos, fun n => ticked_pos⟩
  devices c h := by simpa [State.CpuLegal] using h

theorem stepClosed_ppu : StepClosed State.PpuLegal := by
  refine .of_components (fun _ _ _ h => h) (fun {t} a v h => ?_) (fun _ h => h) fun {t} c h => ?_
  · obtain ⟨ly, mode, clock, -⟩ := sameOwned_write8 t a v
    rwa [State.PpuLegal, ly, mode, clock]
  · rw [State.PpuLegal, deviceUpdate_ppu]
    exact (ppuUpdate_path h c).1

theorem timaPeriod_le (tac : BitVec 3) : 0 < timaPeriod tac ∧ timaPeriod tac ≤ 1024 := by
  revert tac
  decide

/-- Both accumulators are remainders of their periods after an update. -/
theorem timerUpdate_legal {s : State} (h : s.TimerLegal) (c : Nat) : (s.timerUpdate c).TimerLegal := by
  unfold State.timerUpdate State.updateTima
  split
  · rw [State.TimerLegal, timaTicks_timer]
    obtain ⟨pos, le⟩ := timaPeriod_le s.timer.tac
    exact ⟨Nat.mod_lt _ (by decide), (Nat.mod_lt _ pos).trans_le le⟩
  · exact ⟨Nat.mod_lt _ (by decide), h.2⟩

theorem stepClosed_timer : StepClosed State.TimerLegal := by
  refine .of_components (fun _ _ _ h => h) (fun a v h => timerLegal_writeTarget (by simpa [State.TimerLegal] using h) _ v)
    (fun _ h => h) fun {t} c h => ?_
  have updated : ((t.ppuUpdate c).timerUpdate c).TimerLegal := timerUpdate_legal (by simpa [State.TimerLegal] using h) c
  simpa [State.TimerLegal, State.deviceUpdate] using updated

theorem dmaUpdate_legal {s : State} (h : s.DmaLegal) (c : Nat) : (s.dmaUpdate c).DmaLegal := by
  unfold State.dmaUpdate
  dsimp only
  split_ifs with pending due
  · exact ⟨Nat.zero_lt_succ 639, fun _ => rfl⟩
  · exact ⟨Nat.lt_of_not_le due, fun idle => absurd (pending.symm.trans idle) (by decide)⟩
  · exact h

theorem stepClosed_dma : StepClosed State.DmaLegal :=
  .of_components (fun _ _ _ h => h) (fun a v h => dmaLegal_writeTarget (by simpa [State.DmaLegal] using h) _ v)
    (fun _ h => h) fun c h => dmaUpdate_legal (by simpa [State.DmaLegal] using h) c

theorem stepClosed_serial : StepClosed State.SerialLegal :=
  .of_components (fun _ _ _ h => h) (fun a v h => serialLegal_writeTarget (by simpa [State.SerialLegal] using h) _ v)
    (fun _ h => h) fun c h => by simpa [State.SerialLegal] using h

theorem stepClosed_cart : StepClosed State.CartLegal :=
  .of_components (fun _ _ _ h => h) (fun a v h => cartLegal_write8 h a v) (fun _ h => h)
    fun c h => by simpa [State.CartLegal] using h

/-- Settles O7: the parts together. -/
theorem everyStepKeepsTheInvariant : Obligations.EveryStepKeepsTheInvariant := fun _ _ inv next => {
  params := stepClosed_params.next next inv.params
  storage := stepClosed_storage.next next inv.storage
  cpu := (stepClosed_cpu.next next ⟨inv.params, inv.cpu⟩).2
  ppu := stepClosed_ppu.next next inv.ppu
  timer := stepClosed_timer.next next inv.timer
  dma := stepClosed_dma.next next inv.dma
  serial := stepClosed_serial.next next inv.serial
  cart := stepClosed_cart.next next inv.cart }

end Sys2Proof.Machine
end

section
/-! Rendering (60_exceptions.md R450..R455). A row is a fold of sprites over the background and a sprite a fold of its columns,
so a pixel is followed through both folds (`drawSprite_pixel`, `drawSprites_pixel`); a colour is then read off the bytes that
`tileRow` reads, which are VRAM's and OAM's bytes at their bus addresses. -/

namespace Sys2Proof.Machine

/-! ## A pixel through the drawing of sprites -/

/-- A sprite's column writes the pixel it stands on, where its colour is not transparent. -/
theorem drawSpriteColumn_pixel (s : State) (ly k : Nat) (row : PixelRow) (col : Nat) (x : Fin Config.screenWidth) :
    (s.drawSpriteColumn ly k row col)[x] =
      if ((s.oam (4 * k + 1)).toNat - 8 + col : Int) = x then (s.spritePixel ly k col).getD row[x] else row[x] := by
  unfold State.drawSpriteColumn
  dsimp only
  cases s.spritePixel ly k col with
  | none => simp
  | some v =>
    by_cases inside : (0 : Int) ≤ (s.oam (4 * k + 1)).toNat - 8 + col
    · have same : (((s.oam (4 * k + 1)).toNat - 8 + col : Int).toNat = x.val) ↔
          ((s.oam (4 * k + 1)).toNat - 8 + col : Int) = x := by omega
      simp [inside, Vector.getElem_setIfInBounds, same]
    · have outside : ((s.oam (4 * k + 1)).toNat - 8 + col : Int) ≠ x := by omega
      simp [inside, outside]

/-- After n columns of a sprite a pixel is that of the column on it, if that is among them. -/
theorem drawColumns_pixel (s : State) (ly k : Nat) (row : PixelRow) (x : Fin Config.screenWidth) (n : Nat) :
    ((List.range n).foldl (s.drawSpriteColumn ly k) row)[x] =
      if 0 ≤ (x - ((s.oam (4 * k + 1)).toNat - 8) : Int) ∧ (x - ((s.oam (4 * k + 1)).toNat - 8) : Int) < n
      then (s.spritePixel ly k (x - ((s.oam (4 * k + 1)).toNat - 8) : Int).toNat).getD row[x] else row[x] := by
  generalize at_x : (x - ((s.oam (4 * k + 1)).toNat - 8) : Int) = c
  induction n with
  | zero => rw [if_neg (by omega)]; rfl
  | succ n ih =>
    rw [List.range_succ, List.foldl_append, List.foldl_cons, List.foldl_nil, drawSpriteColumn_pixel, ih]
    by_cases here : c = n
    · have column : c.toNat = n := by omega
      rw [if_pos (by omega), if_neg (by omega), if_pos (by omega), column]
    · rw [if_neg (by omega)]
      exact if_congr (by omega) rfl rfl

theorem drawSprite_pixel (s : State) (ly k : Nat) (row : PixelRow) (x : Fin Config.screenWidth) :
    (s.drawSprite ly row k)[x] = (s.spriteAt ly x k).getD row[x] := by
  unfold State.drawSprite State.spriteAt
  rw [drawColumns_pixel]
  dsimp only
  generalize (x - ((s.oam (4 * k + 1)).toNat - 8) : Int) = c
  by_cases reaches : 0 ≤ c ∧ c ≤ 7
  · rw [if_pos reaches, if_pos (by omega)]
  · rw [if_neg reaches, if_neg (by omega)]
    rfl

/-- Of several sprites drawn in order, the last one with a pixel there shows. -/
theorem drawSprites_pixel (s : State) (ly : Nat) (x : Fin Config.screenWidth) (ks : List Nat) (row : PixelRow) :
    (ks.foldl (s.drawSprite ly) row)[x] = (ks.filterMap (s.spriteAt ly x)).getLast?.getD row[x] := by
  induction ks generalizing row with
  | nil => rfl
  | cons k ks ih =>
    rw [List.foldl_cons, ih, drawSprite_pixel, List.filterMap_cons]
    cases s.spriteAt ly x k with
    | none => rfl
    | some v => rw [List.getLast?_cons, Option.getD_some, Option.getD_some]

theorem backgroundRow_pixel (s : State) (ly : Nat) (old : PixelRow) (x : Fin Config.screenWidth) :
    (s.backgroundRow ly old)[x] = if s.ppu.lcdc.getLsbD 0 then s.bgShade ly x else old[x] := by
  unfold State.backgroundRow
  split <;> simp

/-- A rendered line is row LY of the framebuffer. -/
theorem renderLine_fb {s : State} {ly : Fin Config.screenHeight} (h : s.ppu.ly.toNat = ly) :
    s.renderLine.ppu.fb = s.ppu.fb.set ly (s.renderedRow ly s.ppu.fb[ly]) := by
  unfold State.renderLine
  simp [h]

/-! ## The sprites of a line -/

theorem spritesOnLine_spec (s : State) (ly : Nat) :
    (s.spritesOnLine ly).length ≤ 10 ∧ (s.spritesOnLine ly).Pairwise (· < ·) ∧
      (∀ k ∈ s.spritesOnLine ly, k < 40 ∧ s.spriteCovers ly k = true) ∧
      (∀ k, k < 40 → s.spriteCovers ly k = true → k ∉ s.spritesOnLine ly →
        (s.spritesOnLine ly).length = 10 ∧ ∀ j ∈ s.spritesOnLine ly, j < k) := by
  unfold State.spritesOnLine
  generalize covering : (List.range 40).filter (s.spriteCovers ly) = l
  have member {k : Nat} : k ∈ l ↔ k < 40 ∧ s.spriteCovers ly k = true := by rw [← covering, List.mem_filter, List.mem_range]
  have ordered : l.Pairwise (· < ·) := covering ▸ List.pairwise_lt_range.filter _
  refine ⟨List.length_take_le 10 l, ordered.sublist (List.take_sublist 10 l), fun k hk => member.mp (List.mem_of_mem_take hk),
    fun k hk covers dropped => ?_⟩
  have listed : k ∈ l.take 10 ++ l.drop 10 := by rw [List.take_append_drop]; exact member.mpr ⟨hk, covers⟩
  have late : k ∈ l.drop 10 := (List.mem_append.mp listed).resolve_left dropped
  have long : 0 < (l.drop 10).length := List.length_pos_of_mem late
  rw [← List.take_append_drop 10 l, List.pairwise_append] at ordered
  rw [List.length_drop] at long
  exact ⟨by rw [List.length_take]; omega, fun j hj => ordered.2.2 j hj k late⟩

/-! ## Bytes and colours -/

/-- The byte at a bus address, as a number. -/
def State.busByte (s : State) (n : Nat) : Nat := (s.peek (BitVec.ofNat 16 n)).toNat

theorem busByte_vram (s : State) {n : Nat} (low : 0x8000 ≤ n) (high : n < 0xA000) :
    s.busByte n = (s.vram (n - 0x8000)).toNat := by
  have address : (BitVec.ofNat 16 n).toNat = n := by rw [BitVec.toNat_ofNat]; omega
  unfold State.busByte State.peek
  rw [target_vram_of (by omega) (by omega), address]
  rfl

/-- Byte j of OAM's entry k. -/
theorem busByte_oam (s : State) {k : Nat} (small : k < 40) {j : Nat} (field : j < 4) :
    s.busByte (0xFE00 + 4 * k + j) = (s.oam (4 * k + j)).toNat := by
  have address : (BitVec.ofNat 16 (0xFE00 + 4 * k + j)).toNat = 0xFE00 + 4 * k + j := by rw [BitVec.toNat_ofNat]; omega
  have offset : 0xFE00 + 4 * k + j - 0xFE00 = 4 * k + j := by omega
  unfold State.busByte State.peek
  rw [target_oam_of (by omega) (by omega), address, offset]
  rfl

theorem bitVal_getLsbD (v : Byte) (i : Nat) : bitVal (v.getLsbD i) = v.toNat / 2 ^ i % 2 := by
  rw [BitVec.getLsbD, Nat.testBit_eq_decide_div_mod_eq, bitVal]
  have := Nat.mod_two_eq_zero_or_one (v.toNat / 2 ^ i)
  split <;> simp_all

theorem getLsbD_iff (v : Byte) (i : Nat) : v.getLsbD i = true ↔ v.toNat / 2 ^ i % 2 = 1 := by
  rw [BitVec.getLsbD, Nat.testBit_eq_decide_div_mod_eq, decide_eq_true_iff]

theorem shade_toNat (pal : Byte) (id : Nat) : (shade pal id).toNat = pal.toNat / 4 ^ id % 4 := by
  simp [shade, Nat.shiftRight_eq_div_pow, Nat.pow_mul]

/-- The colour id at column c of the tile row at bus address t (R453). -/
def State.colourAt (s : State) (t c : Nat) : Nat :=
  2 * (s.busByte (t + 1) / 2 ^ (7 - c) % 2) + s.busByte t / 2 ^ (7 - c) % 2

theorem colourId_tileRow (s : State) {t r : Nat} (c : Nat) (low : 0x8000 ≤ t) (high : t + 2 * r + 1 < 0xA000) :
    colourId (s.tileRow t r) c = s.colourAt (t + 2 * r) c := by
  unfold colourId State.tileRow State.colourAt
  rw [busByte_vram s (by omega) high, busByte_vram s (by omega) (by omega)]
  simp only [bitVal_getLsbD]

/-! ## The background -/

theorem bgTileAddr_eq (lcdc idx : Byte) : bgTileAddr lcdc idx = if lcdc.getLsbD 4 then 0x8000 + 16 * idx.toNat
    else if idx.toNat < 128 then 0x9000 + 16 * idx.toNat else 0x8800 + 16 * (idx.toNat - 128) := by
  have := idx.isLt
  unfold bgTileAddr
  rw [BitVec.toInt_eq_toNat_cond]
  split_ifs <;> omega

/-- The background's colour id at (px, py), by the bytes read (R451..R453). -/
def State.bgColour (s : State) (py px : Nat) : Nat :=
  let index := s.busByte ((if s.ppu.lcdc.getLsbD 3 then 0x9C00 else 0x9800) + py / 8 * 32 + px / 8)
  let tile := if s.ppu.lcdc.getLsbD 4 then 0x8000 + 16 * index
    else if index < 128 then 0x9000 + 16 * index else 0x8800 + 16 * (index - 128)
  s.colourAt (tile + 2 * (py % 8)) (px % 8)

theorem bgShade_toNat (s : State) (ly x : Nat) : (s.bgShade ly x).toNat =
    s.ppu.bgp.toNat / 4 ^ s.bgColour ((ly + s.ppu.scy.toNat) % 256) ((x + s.ppu.scx.toNat) % 256) % 4 := by
  have py : (BitVec.ofNat 8 ly + s.ppu.scy).toNat = (ly + s.ppu.scy.toNat) % 256 := by simp
  have px : (BitVec.ofNat 8 x + s.ppu.scx).toNat = (x + s.ppu.scx.toNat) % 256 := by simp
  rw [State.bgShade, shade_toNat, ← py, ← px]
  generalize BitVec.ofNat 8 ly + s.ppu.scy = p
  generalize BitVec.ofNat 8 x + s.ppu.scx = q
  have hp := p.isLt
  have hq := q.isLt
  have map : s.busByte ((if s.ppu.lcdc.getLsbD 3 then 0x9C00 else 0x9800) + p.toNat / 8 * 32 + q.toNat / 8) =
      (s.vram (bgMapIndex s.ppu.lcdc q p)).toNat := by
    unfold bgMapIndex
    rw [busByte_vram s (by split_ifs <;> omega) (by split_ifs <;> omega)]
    refine congrArg (fun i => (s.vram i).toNat) ?_
    split_ifs <;> omega
  unfold State.bgColour
  rw [map]
  dsimp only
  rw [← bgTileAddr_eq]
  generalize s.vram (bgMapIndex s.ppu.lcdc q p) = idx
  have tile := bgTileAddr_eq s.ppu.lcdc idx
  have := idx.isLt
  rw [colourId_tileRow s _ (by rw [tile]; split_ifs <;> omega) (by rw [tile]; split_ifs <;> omega)]

/-! ## The sprites -/

/-- The height that LCDC[2] gives sprites (R454). -/
theorem spriteHeight_eq (lcdc : Byte) : spriteHeight lcdc = if lcdc.getLsbD 2 then 16 else 8 := rfl

theorem spriteCovers_iff (s : State) (ly : Nat) {k : Nat} (h : k < 40) : s.spriteCovers ly k = true ↔
    s.busByte (0xFE00 + 4 * k) ≤ ly + 16 ∧ ly + 16 < s.busByte (0xFE00 + 4 * k) + spriteHeight s.ppu.lcdc := by
  have top : s.busByte (0xFE00 + 4 * k) = (s.oam (4 * k)).toNat := busByte_oam s h (j := 0) (by decide)
  rw [State.spriteCovers, decide_eq_true_iff, State.spriteTop, top]
  omega

/-- A bit of an entry's flags (R455). -/
theorem spriteAttr_iff (s : State) {k : Nat} (small : k < 40) (n : Nat) :
    (s.oam (4 * k + 3)).getLsbD n = true ↔ s.busByte (0xFE00 + 4 * k + 3) / 2 ^ n % 2 = 1 := by
  rw [busByte_oam s small (by decide), getLsbD_iff]

/-- Ignoring bit 0 of a tile index (R455). -/
theorem and_fe_toNat (v : Byte) : (v &&& 0xFE).toNat = v.toNat / 2 * 2 := by
  revert v
  decide

/-- The colour id that entry k has at column x of line ly, by the bytes read (R455). -/
def State.spriteColour (s : State) (ly x k : Nat) : Nat :=
  let tall := s.ppu.lcdc.getLsbD 2
  let height := if tall then 16 else 8
  let top := s.busByte (0xFE00 + 4 * k)
  let left := s.busByte (0xFE00 + 4 * k + 1)
  let attr := s.busByte (0xFE00 + 4 * k + 3)
  let index := if tall then s.busByte (0xFE00 + 4 * k + 2) / 2 * 2 else s.busByte (0xFE00 + 4 * k + 2)
  let row := if attr / 2 ^ 6 % 2 = 1 then height - 1 - (ly + 16 - top) else ly + 16 - top
  let col := if attr / 2 ^ 5 % 2 = 1 then 7 - (x + 8 - left) else x + 8 - left
  s.colourAt (0x8000 + 16 * index + 2 * row) col

theorem spriteTile_eq (s : State) {k : Nat} (small : k < 40) : s.spriteTile k =
    if s.ppu.lcdc.getLsbD 2 then s.busByte (0xFE00 + 4 * k + 2) / 2 * 2 else s.busByte (0xFE00 + 4 * k + 2) := by
  rw [State.spriteTile, busByte_oam s small (by decide)]
  split_ifs
  · exact and_fe_toNat _
  · rfl

theorem spriteRow_eq (s : State) (ly : Nat) {k : Nat} (small : k < 40) : s.spriteRow ly k =
    if s.busByte (0xFE00 + 4 * k + 3) / 2 ^ 6 % 2 = 1
    then spriteHeight s.ppu.lcdc - 1 - (ly + 16 - s.busByte (0xFE00 + 4 * k)) else ly + 16 - s.busByte (0xFE00 + 4 * k) := by
  have top : s.busByte (0xFE00 + 4 * k) = (s.oam (4 * k)).toNat := busByte_oam s small (j := 0) (by decide)
  have row : ((ly : Int) - ((s.oam (4 * k)).toNat - 16)).toNat = ly + 16 - (s.oam (4 * k)).toNat := by omega
  rw [State.spriteRow, State.spriteTop, row, ← top]
  exact if_congr (spriteAttr_iff s small 6) rfl rfl

/-- A column of a sprite that covers the line has the colour of its tile's bytes. -/
theorem spritePixel_eq (s : State) (ly x : Nat) {k : Nat} (small : k < 40) (covers : s.spriteCovers ly k = true) :
    s.spritePixel ly k (x + 8 - s.busByte (0xFE00 + 4 * k + 1)) =
      if s.spriteColour ly x k = 0 then none else some (shade (s.spritePalette k) (s.spriteColour ly x k)) := by
  obtain ⟨top, bottom⟩ := (spriteCovers_iff s ly small).mp covers
  have tile := spriteTile_eq s small
  have row := spriteRow_eq s ly small
  have index : s.busByte (0xFE00 + 4 * k + 2) < 256 := BitVec.isLt _
  have fits : 0x8000 + 16 * s.spriteTile k + 2 * s.spriteRow ly k + 1 < 0xA000 := by
    rw [spriteHeight_eq] at *
    rw [tile, row]
    split_ifs at * <;> omega
  have flip : (if (s.oam (4 * k + 3)).getLsbD 5 then 7 - (x + 8 - s.busByte (0xFE00 + 4 * k + 1))
      else x + 8 - s.busByte (0xFE00 + 4 * k + 1)) =
      if s.busByte (0xFE00 + 4 * k + 3) / 2 ^ 5 % 2 = 1 then 7 - (x + 8 - s.busByte (0xFE00 + 4 * k + 1))
      else x + 8 - s.busByte (0xFE00 + 4 * k + 1) :=
    if_congr (spriteAttr_iff s small 5) rfl rfl
  unfold State.spritePixel
  dsimp only
  rw [colourId_tileRow s _ (by omega) fits, flip, tile, row]
  rfl

theorem spriteAt_eq (s : State) (ly x : Nat) {k : Nat} (small : k < 40) (covers : s.spriteCovers ly k = true) :
    s.spriteAt ly x k = if s.busByte (0xFE00 + 4 * k + 1) ≤ x + 8 ∧ x < s.busByte (0xFE00 + 4 * k + 1) ∧
        s.spriteColour ly x k ≠ 0
      then some (shade (s.spritePalette k) (s.spriteColour ly x k)) else none := by
  have pixel := spritePixel_eq s ly x small covers
  have left : s.busByte (0xFE00 + 4 * k + 1) = (s.oam (4 * k + 1)).toNat := busByte_oam s small (by decide)
  rw [left] at pixel ⊢
  unfold State.spriteAt
  dsimp only
  by_cases reaches : (s.oam (4 * k + 1)).toNat ≤ x + 8 ∧ x < (s.oam (4 * k + 1)).toNat
  · have column : ((x : Int) - ((s.oam (4 * k + 1)).toNat - 8)).toNat = x + 8 - (s.oam (4 * k + 1)).toNat := by omega
    rw [if_pos (by omega), column, pixel]
    by_cases transparent : s.spriteColour ly x k = 0 <;> simp [transparent, reaches]
  · rw [if_neg (by omega), if_neg fun ⟨low, high, _⟩ => reaches ⟨low, high⟩]

theorem spritePalette_eq (s : State) {k : Nat} (small : k < 40) : s.spritePalette k =
    if s.busByte (0xFE00 + 4 * k + 3) / 2 ^ 4 % 2 = 1 then s.ppu.obp1 else s.ppu.obp0 :=
  if_congr (spriteAttr_iff s small 4) rfl rfl

/-- Settles O58: the pixel through the folds, the list of the line's sprites, and the colours by the bytes read. -/
theorem renderLineComposesBackgroundAndSprites : Obligations.RenderLineComposesBackgroundAndSprites := by
  refine ⟨renderLine_frame, fun s ly y x h => ⟨fun other => ?_, ?_⟩, spritesOnLine_spec, bgShade_toNat,
    fun s ly x k small => ⟨spriteCovers_iff s ly small, fun covers => ?_⟩⟩
  · rw [renderLine_fb h]
    exact Vector.getElem_set_ne _ _ fun same => other (Fin.ext same.symm)
  · rw [renderLine_fb h]
    have row : (s.ppu.fb.set ly (s.renderedRow ly s.ppu.fb[ly]))[ly] = s.renderedRow ly s.ppu.fb[ly] :=
      Vector.getElem_set_self _
    rw [row, State.renderedRow, drawSprites_pixel, backgroundRow_pixel]
  · have pixel := spriteAt_eq s ly x small covers
    refine ⟨fun drawn => ⟨_, pixel.trans (if_pos drawn), ?_⟩, fun notDrawn => pixel.trans (if_neg notDrawn)⟩
    rw [shade_toNat, spritePalette_eq s small]
    rfl

end Sys2Proof.Machine
end
